-- ==== Sys2Proof/Word.lean ====
section
/-! DEFINITION. The plain data types every other file uses: words, lanes, line addresses, and the numbers that name
ports, regions, sets, ways, slots and reservation entries (00_scope.md, Addresses and divisions). -/

namespace Sys2Proof

/-- A 32-bit word, and a 32-bit byte address (00_scope.md: all addresses are 32-bit byte addresses). -/
abbrev Word := BitVec 32

/-- A set of byte lanes of one word; bit n is lane n, and lane 0 is the lowest address (R2). -/
abbrev Lanes := BitVec 4

/-- A line address without its five zero bits: address bits 31:5. -/
abbrev LineAddr := BitVec 27

/-- Address bits 31:12: the tag of a directory entry, and the page a region's base or limit names. -/
abbrev Tag := BitVec 20

/-- The eight words of a line, by word index (address bits 4:2). -/
abbrev Line := Vector Word 8

/-- A master port, P0 to P3. -/
abbrev Port := Fin 4

/-- A region table entry, Region 0 to Region 7. -/
abbrev RegionId := Fin 8

/-- A directory set (address bits 11:5). -/
abbrev SetIdx := Fin 128

/-- A way of a directory set. -/
abbrev WayIdx := Fin 4

/-- A fill slot. -/
abbrev SlotId := Fin 4

/-- A word of a line. -/
abbrev WordIdx := Fin 8

/-- An entry of the Reservation Table. -/
abbrev ResId := Fin 6

/-- The place on the device operation queue that belongs to one drain entry (R69, R134). -/
abbrev DrainPlace := Fin 2

/-- A set of ports, one mark for each port: sharer sets and waiting sets. -/
abbrev PortSet := Vector Bool 4

/-- The four ports in ascending order. -/
def allPorts : List Port := [0, 1, 2, 3]

/-- The four ways in ascending order. -/
def allWays : List WayIdx := [0, 1, 2, 3]

/-- The four fill slots in ascending order. -/
def allSlots : List SlotId := [0, 1, 2, 3]

/-- The six reservation entries in ascending order. -/
def allRes : List ResId := [0, 1, 2, 3, 4, 5]

/-- The eight regions in ascending order. -/
def allRegions : List RegionId := [0, 1, 2, 3, 4, 5, 6, 7]

end Sys2Proof
end

