-- ==== Sys2Proof/Syntax.lean ====
section
/-! DEFINITION. The commands of the block: one constructor of `Instr` for each row of spec/opcode_table.json, and the
transaction a master presents (R1). A row that takes a granted transaction at the Line Directory carries no operand:
the transaction was presented by an earlier `acceptance` and stands in the state, and which port is granted is the
Intake Arbiter's choice (R15). -/

namespace Sys2Proof

/-- The seven kinds of transaction (R1). -/
inductive Kind
  | read | write | lineRead | lineWrite | reserveRead | releaseWrite | release
  deriving DecidableEq, Repr

/-- A transaction as a master presents it: the port takes in every part, and the hub examines only the parts R1 marks
as used for the kind. -/
structure Transaction where
  /-- What is asked for. -/
  kind : Kind
  /-- The 32-bit byte address. -/
  addr : Word
  /-- The byte enables. -/
  lanes : Lanes
  /-- The one word of write data of a WRITE or RELEASE_WRITE. -/
  wdata : Word
  /-- The eight words of write data of a LINE_WRITE, in ascending word index order (R3). -/
  ldata : Line
  /-- The KEEP qualifier (R4). -/
  keep : Bool
  /-- The NO_ALLOCATE qualifier (R4). -/
  noAllocate : Bool
  deriving DecidableEq, Repr

/-- The commands: the happenings of the SK-416, one for each row of spec/opcode_table.json. -/
inductive Instr
  /-- ACCEPTANCE (R5): the master of port `k` presents `t`. -/
  | acceptance (k : Port) (t : Transaction)
  /-- READ (R31): the directory takes the granted READ. -/
  | read
  /-- WRITE (R33): the directory takes the granted WRITE. -/
  | write
  /-- LINE_READ (R32): the directory takes the granted LINE_READ. -/
  | lineRead
  /-- LINE_WRITE (R47): the directory takes the granted LINE_WRITE. -/
  | lineWrite
  /-- RESERVE_READ (R81): the directory takes the granted RESERVE_READ. -/
  | reserveRead
  /-- RELEASE_WRITE (R87): the directory takes the granted RELEASE_WRITE. -/
  | releaseWrite
  /-- RELEASE (R88): the directory takes the granted RELEASE. -/
  | release
  /-- PORT_RESET (R22): port `k`'s reset line is asserted. -/
  | portReset (k : Port)
  /-- PORT_RESET_DEASSERT (R22): port `k`'s reset line is deasserted. -/
  | portResetDeassert (k : Port)
  /-- POWER_ON_RESET (R195): the power-on reset pin takes the level `asserted`. -/
  | powerOnReset (asserted : Bool)
  /-- ACK (R140): the device asserts ACK alone, with `data` on its read data lanes. -/
  | ack (data : Word)
  /-- ERR (R141): the device asserts ERR, with ACK beside it or not (R196). -/
  | err (withAck : Bool)
  /-- READY_TIMEOUT (R142): the presented transfer's ready timer runs out. -/
  | readyTimeout
  /-- PROBE_TIMER_RUN_OUT (R157): region `r`'s probe timer runs out. -/
  | probeTimerRunOut (r : RegionId)
  /-- EXPIRY (R85): reservation entry `e`'s remaining time runs out. -/
  | expiry (e : ResId)
  /-- ACKNOWLEDGEMENT (R103): the master of port `k` returns the acknowledgement word `w` (R189). -/
  | acknowledgement (k : Port) (w : Word)
  /-- NOTICE_TIMEOUT (R106): port `k`'s notice timer runs out. -/
  | noticeTimeout (k : Port)
  /-- FOREIGN_WRITE (R115): a foreign agent presents `a` on the foreign write input. -/
  | foreignWrite (a : Word)
  /-- EVALUATION (R117): the PENDING head of the foreign notice FIFO is taken at the directory. -/
  | evaluation
  /-- CLEAN_SWEEP_STEP (R169): the directory takes the step a RUNNING CLEAN sweep presents. -/
  | cleanSweepStep
  /-- FLUSH_SWEEP_STEP (R170): the directory takes the step a RUNNING FLUSH sweep presents. -/
  | flushSweepStep
  /-- DISCARD_SWEEP_STEP (R171): the directory takes the step a RUNNING DISCARD sweep presents. -/
  | discardSweepStep
  /-- RUN (R181): the directory takes the granted write of RUN to HUB_STATE. -/
  | run
  /-- SOFT_RESET (R182): the directory takes the granted write of RESET to HUB_STATE. -/
  | softReset
  /-- PORT_CFG (R184): the directory takes the granted write to a PORT_CFG register. -/
  | portCfg
  /-- ATTACH (R110): the directory takes the granted write of ATTACH to PORT_CMD. -/
  | attach
  /-- DETACH (R109): the directory takes the granted write of DETACH to PORT_CMD. -/
  | detach
  /-- CONTROL_WINDOW_WRITE (R185): the directory takes the granted write to RES_TIME, NOTICE_TIME or URGENCY, or a
  granted write to a command register with a code no other row names. -/
  | controlWindowWrite
  /-- REGION (R130): the directory takes the granted write to a word of a REGION group. -/
  | region
  /-- ENABLE (R131): the directory takes the granted write of ENABLE to REGION_CMD. -/
  | enable
  /-- DISABLE (R132): the directory takes the granted write of DISABLE to REGION_CMD. -/
  | disable
  /-- FORCE_PROBE (R161): the directory takes the granted write of FORCE_PROBE to REGION_CMD. -/
  | forceProbe
  /-- FORCE_ONLINE (R162): the directory takes the granted write of FORCE_ONLINE to REGION_CMD. -/
  | forceOnline
  /-- FORCE_OFFLINE (R163): the directory takes the granted write of FORCE_OFFLINE to REGION_CMD. -/
  | forceOffline
  /-- CLEAN (R167): the directory takes the granted write of CLEAN to SWEEP_CMD. -/
  | clean
  /-- FLUSH (R167): the directory takes the granted write of FLUSH to SWEEP_CMD. -/
  | flush
  /-- DISCARD (R167): the directory takes the granted write of DISCARD to SWEEP_CMD. -/
  | discard
  /-- ABORT (R176): the directory takes the granted write of ABORT to SWEEP_CMD. -/
  | abort
  /-- LINE_QUERY (R188): the directory takes the granted write to LINE_QUERY. -/
  | lineQuery
  /-- EVENT_HEAD (R191): the directory takes the granted READ of EVENT_HEAD word 0 or word 1. -/
  | eventHead
  /-- EVENT_POP (R192): the directory takes the granted write to EVENT_POP. -/
  | eventPop
  deriving DecidableEq, Repr

end Sys2Proof
end

