-- ==== Sys2Proof/Config.lean ====
section
/-! DEFINITION. The free values, each a constant without a body, so that a claim holds whatever it is: bits that the
spec assigns to a field and gives no value while the field is absent, drawn with the model's own counter `State.fresh`
(notes/assumptions/5.md), and bits of an output that the spec assigns to nothing, a function of what is presented
(notes/assumptions/16.md and 17.md). -/

namespace Sys2Proof

/-- Event record word 0 bits 10:9 while bit 8 (port present) is clear: R189 states no value. DESIGN CHOICE. -/
opaque Config.absentPort : Nat → Port

/-- Event record word 0 bits 14:12 while bit 11 (region present) is clear: R189 states no value. DESIGN CHOICE. -/
opaque Config.absentRegion : Nat → RegionId

/-- SWEEP_STATUS word 0 bits 7:5 while bit 4 (filter ALL) is set: R183 states no value. DESIGN CHOICE. -/
opaque Config.absentFilter : Nat → RegionId

/-- LINE_QUERY bits 11:9 while bit 8 (region present) is clear: R188 states no value. DESIGN CHOICE. -/
opaque Config.absentLineRegion : Nat → RegionId

/-- LINE_QUERY bits 14:13 while bit 12 (reserved) is clear: R188 states no value. DESIGN CHOICE. -/
opaque Config.absentOwner : Nat → Port

/-- LINE_QUERY bits 17:15 while bit 12 (reserved) is clear: R188 states no value. DESIGN CHOICE. -/
opaque Config.absentWord : Nat → WordIdx

/-- Bits 4:1 of the word on a notice channel: R189 assigns them to nothing and states no value. They are a function of the
line address and the kind presented. DESIGN CHOICE (notes/assumptions/16.md). -/
opaque Config.noticeSpare : LineAddr → Bool → BitVec 4

/-- The write data lanes of a presented transfer that carry no byte to write, all of them in a read: R137 and R196 state
no value. They are a function of the transfer's address, direction, lanes and write data. DESIGN CHOICE
(notes/assumptions/17.md). -/
opaque Config.unstrobedData : Word → Bool → Lanes → Word → Word

end Sys2Proof
end

