-- ==== Sys2Proof/Machine/State.lean ====
section
/-! DEFINITION. The state of the SK-416 as plain data, block by block as the spec divides it, and the state right after
power-on reset. Types are named after the spec's structures; a field cites the rule that gives it. -/

namespace Sys2Proof.Machine

/-! ## Responses and the other outputs of one happening -/

/-- The causes of a RETRY (Outcomes and Causes, 01_master_port_transactions.md). -/
inductive RetryCause
  | setBusy | fillFull | drainFull | lineBusy | reserved | noticeFull | resFull
  deriving DecidableEq, Repr

/-- The causes of a FAULT (Outcomes and Causes, 01_master_port_transactions.md). -/
inductive FaultCause
  | notReady | shape | unmapped | attr | offline | device | resLimit | denied | control | reset
  deriving DecidableEq, Repr

/-- What a DONE carries (R9). -/
inductive DoneData
  /-- No data. -/
  | nothing
  /-- One word: READ and RESERVE_READ, and a READ of the control window. -/
  | word (w : Word)
  /-- Eight words in wrap order, and the keep flag, set for KEEP: LINE_READ. -/
  | line (ws : Line) (keep : Bool)
  deriving DecidableEq, Repr

/-- A response: an outcome with its cause or data (R7). -/
inductive Response
  | done (d : DoneData)
  | retry (c : RetryCause)
  | late
  | fault (c : FaultCause)
  deriving DecidableEq, Repr

/-- What the hub gives out in one happening and does not hold afterwards: responses (R7) and accept handshakes
(R5, R115). -/
structure Outputs where
  /-- The responses delivered, in the order the rules give, each with its port. -/
  responses : List (Port × Response)
  /-- The port that gave its accept handshake. -/
  portAccept : Option Port
  /-- The foreign write input gave its accept handshake. -/
  foreignAccept : Bool
  deriving DecidableEq, Repr

/-- No output. -/
def Outputs.none : Outputs := { responses := [], portAccept := .none, foreignAccept := false }

/-! ## Master ports -/

/-- CONFIG or RUN (R181). -/
inductive HubState
  | config | run
  deriving DecidableEq, Repr

/-- A port's mode, with the attachment a COHERENT port holds (R8). -/
inductive Mode
  | plain
  | coherent (attached : Bool)
  deriving DecidableEq, Repr

/-- Where a transaction in flight stands (R6). AT_PORT holds the transaction itself; a fill slot or the port operation
holds what it needs of it afterwards. -/
inductive Placement
  | atPort (t : Transaction)
  | requester (slot : SlotId)
  | waiter (slot : SlotId)
  | portOp
  deriving DecidableEq, Repr

/-- A master port (R5, R8, R13, R22). -/
structure MasterPort where
  /-- The transaction in flight, by its placement: none is IDLE, some is WAITING (R5). -/
  flight : Option Placement
  /-- The retry count, 0 to 15 (R13). -/
  retry : Nat
  /-- COHERENT or PLAIN, and the attachment (R8). -/
  mode : Mode
  /-- Control permission (R8). -/
  permission : Bool
  /-- Event enable (R8). -/
  eventEnable : Bool
  /-- The level of the port reset line, set while asserted (R22). -/
  resetLine : Bool
  deriving DecidableEq, Repr

/-- A transaction as a fill slot holds it: with its port and the region found at intake (R53). -/
structure Request where
  port : Port
  txn : Transaction
  region : RegionId
  deriving DecidableEq, Repr

/-! ## The Line Directory -/

/-- What a CLEAN or DIRTY way holds (R25). -/
structure Held where
  tag : Tag
  region : RegionId
  sharers : PortSet
  data : Line
  deriving DecidableEq, Repr

/-- A directory entry by its state (R25, R26). -/
inductive Entry
  | invalid
  | clean (h : Held)
  | dirty (h : Held)
  | filling (tag : Tag) (region : RegionId) (slot : SlotId)
  deriving DecidableEq, Repr

/-- A set: its four ways and its recency list, most recently used first (R25, R39). -/
structure DirSet where
  ways : Vector Entry 4
  recency : List WayIdx
  deriving DecidableEq, Repr

/-! ## The Line Mover -/

/-- A BUSY fill slot (R53). -/
structure Fill where
  line : LineAddr
  way : WayIdx
  region : RegionId
  allocPort : Port
  requester : Option Request
  critical : WordIdx
  waiters : List Request
  tainted : Bool
  received : List Word
  deriving DecidableEq, Repr

/-- The kind of a drain entry (R69). -/
inductive DrainKind
  | evict | copy
  deriving DecidableEq, Repr

/-- A drain buffer entry (R69). `held` is clear for QUEUED and set for HELD; `place` is the entry's place on the
device operation queue (R134), which names it there. -/
structure DrainEntry where
  place : DrainPlace
  line : LineAddr
  data : Line
  region : RegionId
  kind : DrainKind
  held : Bool
  deriving DecidableEq, Repr

/-! ## The Reservation Table -/

/-- A HELD reservation entry (R77). `remaining` counts microseconds; 0 says that the time has run out and the expiry
is due. -/
structure Reservation where
  owner : Port
  line : LineAddr
  word : WordIdx
  remaining : Nat
  deriving DecidableEq, Repr

/-! ## The Notice Unit -/

/-- The kind of a notice (R96). -/
inductive NoticeKind
  | invalidate | revoke
  deriving DecidableEq, Repr

/-- A notice (R96). -/
structure Notice where
  kind : NoticeKind
  line : LineAddr
  deriving DecidableEq, Repr

/-- A port's notice queue, oldest first (R96), and its notice timer: none is STOPPED, some n is RUNNING with n µs left
(R104). -/
structure NoticeQueue where
  queue : List Notice
  timer : Option Nat
  deriving DecidableEq, Repr

/-! ## The Foreign Write Input -/

/-- The foreign notice FIFO, oldest first, and its head's state: none is PENDING, some S is DEFERRED with the waiting
set S (R116). -/
structure ForeignFifo where
  lines : List LineAddr
  deferred : Option PortSet
  deriving DecidableEq, Repr

/-! ## The region table -/

/-- A device width (R128). -/
inductive Width
  | w8 | w16 | w32
  deriving DecidableEq, Repr

/-- A region's configuration (R128). Base and limit are held without their twelve zero bits. -/
structure RegionConfig where
  base : Tag
  limit : Tag
  width : Width
  cacheable : Bool
  /-- The write policy: clear for WRITE_BACK, set for WRITE_THROUGH. -/
  writeThrough : Bool
  /-- The ready timeout in µs, 1 to 255. -/
  readyTimeout : BitVec 8
  /-- The offline threshold, 1 to 7. -/
  threshold : BitVec 3
  /-- The probe interval in units of 10 µs, 1 to 255. -/
  probeInterval : BitVec 8
  /-- The probe offset in bytes. -/
  probeOffset : Word
  deriving DecidableEq, Repr

/-- A region's health state (R128, R152). -/
inductive Health
  | disabled | online | offline
  deriving DecidableEq, Repr

/-- A region table entry: its configuration and its condition (R128). The probe timer is none when STOPPED. -/
structure Region where
  cfg : RegionConfig
  health : Health
  count : Nat
  probeTimer : Option Nat
  deriving DecidableEq, Repr

/-! ## The Device Port -/

/-- An operation's kind with its source (R135). -/
inductive OpKind
  | fill (slot : SlotId)
  | drain (place : DrainPlace)
  | portRead (port : Port)
  | portWrite (port : Port) (writeThrough : Bool)
  | probe
  deriving DecidableEq, Repr

/-- An operation's extent with its word order or lanes (R135, R138). A LINE in ascending order is the wrap order from
word 0. -/
inductive Extent
  | line (start : WordIdx)
  | word (idx : WordIdx) (lanes : Lanes)
  deriving DecidableEq, Repr

/-- A device operation (R135). The address is `line` with the word index of the extent; `data` holds write data by word
index, and zero for a read. -/
structure Operation where
  kind : OpKind
  region : RegionId
  line : LineAddr
  extent : Extent
  data : Line
  owner : Option Port
  deriving DecidableEq, Repr

/-- A device transfer as it stands on the bus (R137, R196). `data` holds the bytes of a write's strobed lanes and zero
elsewhere (notes/assumptions/17.md); `endsWord` marks the last transfer of its word. -/
structure Transfer where
  region : RegionId
  addr : Word
  write : Bool
  lanes : Lanes
  data : Word
  endsWord : Bool
  deriving DecidableEq, Repr

/-- The Device Port's state (R136). -/
inductive DevPhase
  | idle
  /-- The head is under way: the presented transfer, its ready timer (R139), the transfers still to present, the bytes
  gathered of the present word, and the words a read has completed (R140). -/
  | busy (now : Transfer) (timer : Nat) (rest : List Transfer) (gathered : Word) (kept : List Word)
  /-- An orphan transfer is presented, with its ready timer. -/
  | clearing (orphan : Transfer) (timer : Nat)
  deriving DecidableEq, Repr

/-- A port operation place, with the parked operation an ORPHANED place may hold (R145, R149). -/
inductive Place
  | free
  | active
  | orphaned (parked : Option Operation)
  deriving DecidableEq, Repr

/-- The Device Port: its state, the device operation queue with the head first, and the port operation places. -/
structure DevicePort where
  phase : DevPhase
  queue : List Operation
  places : Vector Place 4
  deriving DecidableEq, Repr

/-! ## The Sweep Engine -/

/-- A sweep command (R166). -/
inductive SweepCommand
  | clean | flush | discard
  deriving DecidableEq, Repr

/-- The sweep state, with what a WAITING sweep waits for and its waiting set (R166, R173). -/
inductive SweepState
  | idle
  | running
  | waitingDrain
  | waitingNotice (ports : PortSet)
  deriving DecidableEq, Repr

/-- The Sweep Engine's fields (R166). A filter of none is ALL. -/
structure Sweep where
  state : SweepState
  command : Option SweepCommand
  filter : Option RegionId
  issuer : Port
  set : SetIdx
  way : WayIdx
  writtenBack : Nat
  invalidated : Nat
  skipped : Nat
  aborted : Bool
  deriving DecidableEq, Repr

/-! ## Control window and events -/

/-- The state a LINE_QUERY reports (R188). -/
inductive LineState
  | invalid | clean | dirty | filling
  deriving DecidableEq, Repr

/-- The LINE_QUERY snapshot, field by field as it is read back (R188). -/
structure Snapshot where
  state : LineState
  way : WayIdx
  sharers : PortSet
  regionPresent : Bool
  region : RegionId
  reserved : Bool
  owner : Port
  word : WordIdx
  drains : Nat
  slot : SlotId
  line : LineAddr
  deriving DecidableEq, Repr

/-- How a write-through write was lost (R147). -/
inductive LostHow
  | device | offline | abandoned
  deriving DecidableEq, Repr

/-- The detail of a FOREIGN_CONFLICT record (R124). -/
inductive Conflict
  | dirtyDropped | drainPending | both
  deriving DecidableEq, Repr

/-- An event record, with the fields its kind carries (R189, second and third tables). -/
inductive Event
  | regionOfflineTimeout (r : RegionId) (line : LineAddr)
  | regionOfflineForced (r : RegionId) (k : Port)
  | regionOnlineProbe (r : RegionId)
  | regionOnlineForced (r : RegionId) (k : Port)
  | drainLost (kind : DrainKind) (r : RegionId) (line : LineAddr)
  | writeLost (how : LostHow) (k : Port) (r : RegionId) (line : LineAddr)
  | foreignConflict (detail : Conflict) (r : RegionId) (line : LineAddr)
  | portDetached (kind : NoticeKind) (k : Port) (line : LineAddr)
  | sweepDone (aborted : Bool) (k : Port) (filter : Option RegionId)
  | hubReset (k : Port)
  deriving DecidableEq, Repr

/-- The event queue, oldest first, and the overflow flag (R190). -/
structure EventQueue where
  records : List Event
  overflow : Bool
  deriving DecidableEq, Repr

/-! ## The whole hub -/

/-- The state of the hub. `pending` is the queue of commands that wait; `fresh` is the model's own counter for free
values. -/
structure State where
  /-- The commands that wait, first in, first out. -/
  pending : List Instr
  /-- The level of the power-on reset pin, set while asserted (R195). -/
  porPin : Bool
  /-- CONFIG or RUN (R181). -/
  hub : HubState
  /-- The master ports (R5, R8). -/
  ports : Vector MasterPort 4
  /-- The Intake Arbiter's last-granted port (R16). -/
  lastGranted : Port
  /-- URGENCY, 1 to 15 (R14). -/
  urgency : BitVec 4
  /-- The Line Directory (R25). -/
  dir : Vector DirSet 128
  /-- The fill slots; none is FREE (R53). -/
  slots : Vector (Option Fill) 4
  /-- The drain buffer, oldest first (R69). -/
  drains : List DrainEntry
  /-- The Reservation Table; none is FREE (R77). -/
  res : Vector (Option Reservation) 6
  /-- RES_TIME in µs, 1 to 255 (R80). -/
  resTime : BitVec 8
  /-- The notice queues and notice timers (R96, R104). -/
  notices : Vector NoticeQueue 4
  /-- NOTICE_TIME in µs, 1 to 255 (R105). -/
  noticeTime : BitVec 8
  /-- The foreign notice FIFO (R116). -/
  fifo : ForeignFifo
  /-- The region table (R128). -/
  regions : Vector Region 8
  /-- The Device Port with the device operation queue (R134, R136, R145). -/
  dev : DevicePort
  /-- The Sweep Engine (R166). -/
  sweep : Sweep
  /-- The LINE_QUERY snapshot (R188). -/
  snapshot : Snapshot
  /-- The event queue and its overflow flag (R190). -/
  events : EventQueue
  /-- The event latches, one for each port (R191). -/
  latches : Vector Word 4
  /-- The model's own counter that free values are drawn with (notes/assumptions/5.md). -/
  fresh : Nat
  /-- The outputs of the latest happening (R7, R5, R115). -/
  out : Outputs
  deriving DecidableEq, Repr

/-- The reasons to stop with a fault: none. The hub never stops serving (General Description, 00_scope.md); what the
spec calls a FAULT is an outcome carried in a response, and the machine goes on. -/
inductive Fault
  deriving DecidableEq, Repr

/-- The reasons to refuse a command. -/
inductive Refusal
  /-- Raised by `exec` alone, for a constructor that has no meaning yet; safe, since nothing can be proved of a run
  that stops. No arm of `exec` raises it in this model. -/
  | notModelled (mnemonic : String)
  deriving DecidableEq, Repr

/-! ## After power-on reset -/

/-- A port after power-on reset, but for P0's permission (R8, R24). The reset line's level is an input: not asserted. -/
def MasterPort.init (permission : Bool) : MasterPort :=
  { flight := none, retry := 0, mode := .plain, permission := permission, eventEnable := false, resetLine := false }

/-- A set after power-on and soft reset: every way INVALID, way 0 most recent (R40, R51, R52). -/
def DirSet.init : DirSet := { ways := Vector.replicate 4 .invalid, recency := [0, 1, 2, 3] }

/-- An empty notice queue with its timer STOPPED (R114). -/
def NoticeQueue.empty : NoticeQueue := { queue := [], timer := none }

/-- The empty foreign notice FIFO (R127). -/
def ForeignFifo.empty : ForeignFifo := { lines := [], deferred := none }

/-- A region table entry after power-on reset (R128). -/
def Region.init : Region :=
  { cfg := { base := 0, limit := 0, width := .w32, cacheable := false, writeThrough := false, readyTimeout := 8,
             threshold := 3, probeInterval := 100, probeOffset := 0 },
    health := .disabled, count := 0, probeTimer := none }

/-- The Device Port after power-on reset (R151). -/
def DevicePort.init : DevicePort := { phase := .idle, queue := [], places := Vector.replicate 4 .free }

/-- The Sweep Engine after power-on and soft reset (R166, R178). -/
def Sweep.init : Sweep :=
  { state := .idle, command := none, filter := none, issuer := 0, set := 0, way := 0, writtenBack := 0,
    invalidated := 0, skipped := 0, aborted := false }

/-- The snapshot after power-on and soft reset: every field zero (R188). -/
def Snapshot.zero : Snapshot :=
  { state := .invalid, way := 0, sharers := Vector.replicate 4 false, regionPresent := false, region := 0,
    reserved := false, owner := 0, word := 0, drains := 0, slot := 0, line := 0 }

/-- The hub right after power-on reset, with the pin deasserted and no command waiting (R195 and the rules it names).
The value of `fresh` is the model's own (DESIGN CHOICE, notes/assumptions/5.md), and the levels of the input pins are
taken as deasserted (DESIGN CHOICE, notes/assumptions/9.md). -/
def State.reset : State :=
  { pending := [],
    porPin := false,
    hub := .config,
    ports := (Vector.replicate 4 (MasterPort.init false)).set 0 (MasterPort.init true),
    lastGranted := 3,
    urgency := 4,
    dir := Vector.replicate 128 DirSet.init,
    slots := Vector.replicate 4 none,
    drains := [],
    res := Vector.replicate 6 none,
    resTime := 64,
    notices := Vector.replicate 4 NoticeQueue.empty,
    noticeTime := 50,
    fifo := ForeignFifo.empty,
    regions := Vector.replicate 8 Region.init,
    dev := DevicePort.init,
    sweep := Sweep.init,
    snapshot := Snapshot.zero,
    events := { records := [], overflow := false },
    latches := Vector.replicate 4 0,
    fresh := 0,
    out := Outputs.none }

end Sys2Proof.Machine
end

