-- ==== Sys2Proof/Machine/Operands.lean ====
section
/-! DEFINITION. Operand forms: how an address, a set of lanes, a line of words and a word written to the control window
are read, and how a device operation is cut into transfers. -/

namespace Sys2Proof.Machine

/-! ## Addresses (00_scope.md, Addresses and divisions) -/

/-- The line address of a byte address: bits 31:5. -/
def lineOf (a : Word) : LineAddr := a.extractLsb' 5 27

/-- The word index of a byte address: bits 4:2. -/
def wordIdxOf (a : Word) : WordIdx := ⟨(a.extractLsb' 2 3).toNat, (a.extractLsb' 2 3).isLt⟩

/-- The page of a byte address: bits 31:12, which are the tag of its line. -/
def pageOf (a : Word) : Tag := a.extractLsb' 12 20

/-- The set index of a line address: address bits 11:5. -/
def setOf (l : LineAddr) : SetIdx := ⟨(l.extractLsb' 0 7).toNat, (l.extractLsb' 0 7).isLt⟩

/-- The tag of a line address: address bits 31:12. -/
def tagOf (l : LineAddr) : Tag := l.extractLsb' 7 20

/-- The line a way holds: its tag with the set index of the set it stands in (R25). -/
def lineAt (tag : Tag) (si : SetIdx) : LineAddr := tag ++ BitVec.ofNat 7 si.val

/-- The byte address of byte `offset` of word `i` of line `l`. -/
def byteAddr (l : LineAddr) (i : WordIdx) (offset : BitVec 2) : Word := l ++ BitVec.ofNat 3 i.val ++ offset

/-- The word of a line address: bits 4:0 zero. -/
def lineWord (l : LineAddr) : Word := l ++ 0#5

/-! ## Byte lanes (R2) -/

/-- The bits of a word that belong to one lane, when it is in `m`. -/
def laneBits (m : Lanes) (n : Nat) : BitVec 8 := if m.getLsbD n then 0xFF else 0

/-- The bits of a word that belong to the lanes of `m`. -/
def byteMask (m : Lanes) : Word := laneBits m 3 ++ laneBits m 2 ++ laneBits m 1 ++ laneBits m 0

/-- The bytes of the lanes of `m`, zero in the other lanes. -/
def maskLanes (m : Lanes) (w : Word) : Word := w &&& byteMask m

/-- `old` with the bytes of the lanes of `m` taken from `new`. -/
def mergeLanes (m : Lanes) (old new : Word) : Word := (old &&& ~~~byteMask m) ||| (new &&& byteMask m)

/-- The ten legal shapes: non-empty and contiguous (R2, its table). -/
def legalShape (m : Lanes) : Bool :=
  [0b0001, 0b0010, 0b0100, 0b1000, 0b0011, 0b0110, 0b1100, 0b0111, 0b1110, 0b1111].contains m

/-! ## Wrap order (R3, 00_scope.md, Wrap order) -/

/-- The word indexes in wrap order from `c`. -/
def wrapOrder (c : WordIdx) : List WordIdx := [c, c + 1, c + 2, c + 3, c + 4, c + 5, c + 6, c + 7]

/-- The words of a line in wrap order from `c`. -/
def wrapLine (c : WordIdx) (d : Line) : Line := Vector.ofFn fun i => d[c + i]

/-- The line whose words arrived in wrap order from `c`, arranged by word index (R59, step 1). -/
def arrange (c : WordIdx) (ws : List Word) : Line := Vector.ofFn fun i => (ws[(i - c).val]?).getD 0

/-- A list of words as a line: the words in the order of the list. -/
def lineOfWords (ws : List Word) : Line := Vector.ofFn fun i => (ws[i.val]?).getD 0

/-! ## Vectors and port sets -/

/-- `v` with `a` at `i`. -/
def setAt {α : Type} {n : Nat} (v : Vector α n) (i : Fin n) (a : α) : Vector α n := v.set i.val a i.isLt

/-- `v` with `f` applied at every place. -/
def mapAll {α β : Type} {n : Nat} (v : Vector α n) (f : α → β) : Vector β n := Vector.ofFn fun i => f v[i]

end Sys2Proof.Machine

namespace Sys2Proof

open Sys2Proof.Machine

/-- The empty set of ports. -/
def PortSet.empty : PortSet := Vector.replicate 4 false

/-- The set with port `k` added. -/
def PortSet.insert (S : PortSet) (k : Port) : PortSet := setAt S k true

/-- The set with port `k` removed. -/
def PortSet.erase (S : PortSet) (k : Port) : PortSet := setAt S k false

/-- The set cut down to port `k`. -/
def PortSet.only (S : PortSet) (k : Port) : PortSet := setAt PortSet.empty k S[k]

/-- Whether the set holds any port. -/
def PortSet.any (S : PortSet) : Bool := S[0] || S[1] || S[2] || S[3]

/-! ## Transactions by kind (R1) -/

/-- The kinds whose byte enables are used and checked (R1, R19). -/
def Kind.usesLanes : Kind → Bool
  | .read | .write | .reserveRead | .releaseWrite => true
  | .lineRead | .lineWrite | .release => false

/-- RESERVE_READ, RELEASE_WRITE and RELEASE (R21). -/
def Kind.isReservation : Kind → Bool
  | .reserveRead | .releaseWrite | .release => true
  | .read | .write | .lineRead | .lineWrite => false

/-- The line a transaction concerns (R1). -/
def Transaction.line (t : Transaction) : LineAddr := lineOf t.addr

/-- The word a transaction addresses, and the critical word of a LINE_READ (R1). -/
def Transaction.word (t : Transaction) : WordIdx := wordIdxOf t.addr

/-- The NO_ALLOCATE qualifier, examined on READ, WRITE and LINE_READ alone (R1, R4). -/
def Transaction.bypasses (t : Transaction) : Bool :=
  match t.kind with
  | .read | .write | .lineRead => t.noAllocate
  | .lineWrite | .reserveRead | .releaseWrite | .release => false

/-- A line after a write transaction's bytes: a LINE_WRITE replaces all 32, the other writes change the enabled lanes
of one word (R2, R3, R33). -/
def Transaction.written (t : Transaction) (d : Line) : Line :=
  match t.kind with
  | .lineWrite => t.ldata
  | _ => setAt d t.word (mergeLanes t.lanes d[t.word] t.wdata)

end Sys2Proof

namespace Sys2Proof.Machine

/-! ## Regions (R128, R129) -/

/-- Whether an entry takes part in the match: ONLINE or OFFLINE (R20). -/
def Region.enabled (g : Region) : Bool := g.health != .disabled

/-- Whether a page lies in the range from base through limit (R129). -/
def RegionConfig.covers (c : RegionConfig) (page : Tag) : Bool := c.base ≤ page && page ≤ c.limit

/-- The size of the range in bytes: the limit less the base plus 4 KiB (R129). -/
def RegionConfig.size (c : RegionConfig) : Nat := (c.limit.toNat + 1 - c.base.toNat) * 4096

/-- The probe address: the base plus the probe offset (R129). -/
def RegionConfig.probeAddr (c : RegionConfig) : Word := (c.base ++ 0#12) + c.probeOffset

/-- A probe interval in microseconds (R157). -/
def RegionConfig.probeTime (c : RegionConfig) : Nat := c.probeInterval.toNat * 10

/-- The write-through regions: cacheable with the write policy WRITE_THROUGH (R128). -/
def RegionConfig.isWriteThrough (c : RegionConfig) : Bool := c.cacheable && c.writeThrough

/-! ## Device transfers (R137, R138) -/

/-- The transfer units of a word, each with the byte offset of its lowest lane, the lower unit first (R137). -/
def unitsOf : Width → List (Lanes × BitVec 2)
  | .w32 => [(0b1111, 0)]
  | .w16 => [(0b0011, 0), (0b1100, 2)]
  | .w8 => [(0b0001, 0), (0b0010, 1), (0b0100, 2), (0b1000, 3)]

/-- The units that hold a lane of `need` (R137). -/
def unitsMoved (w : Width) (need : Lanes) : List (Lanes × BitVec 2) := (unitsOf w).filter fun u => u.1 &&& need != 0

/-- The transfer of one unit of a word, `last` marking the last one moved. `data` holds the bytes of a write's strobed
lanes and zero elsewhere, so that equal transfers are equal data; what the other lanes of the bus carry is
`Transfer.busData` (notes/assumptions/17.md). -/
def transferOfUnit (r : RegionId) (write : Bool) (l : LineAddr) (i : WordIdx) (need : Lanes) (d : Word) (last : Bool)
    (u : Lanes × BitVec 2) : Transfer :=
  { region := r, addr := byteAddr l i u.2, write := write, lanes := u.1 &&& need,
    data := if write then maskLanes (u.1 &&& need) d else 0, endsWord := last }

/-- The transfers of a list of units of one word. -/
def transfersOfUnits (r : RegionId) (write : Bool) (l : LineAddr) (i : WordIdx) (need : Lanes) (d : Word) :
    List (Lanes × BitVec 2) → List Transfer
  | [] => []
  | [u] => [transferOfUnit r write l i need d true u]
  | u :: v :: us => transferOfUnit r write l i need d false u :: transfersOfUnits r write l i need d (v :: us)

/-- The direction of an operation's transfers (R135). -/
def OpKind.isWrite : OpKind → Bool
  | .drain _ => true
  | .portWrite _ _ => true
  | .fill _ => false
  | .portRead _ => false
  | .probe => false

/-- The words an operation moves, in order, with the lanes it needs of each (R137, R138). -/
def Extent.words : Extent → List (WordIdx × Lanes)
  | .line c => (wrapOrder c).map fun i => (i, 0b1111)
  | .word i m => [(i, m)]

/-- The transfers of a whole operation at a width, in the order they are presented (R137, R138). -/
def Operation.transfers (op : Operation) (w : Width) : List Transfer :=
  op.extent.words.flatMap fun p =>
    transfersOfUnits op.region op.kind.isWrite op.line p.1 p.2 op.data[p.1] (unitsMoved w p.2)

/-- A line of zero words: the data of a read operation. -/
def zeroLine : Line := Vector.replicate 8 0

/-- The read a fill slot places on the queue (R54). -/
def fillOp (slot : SlotId) (r : RegionId) (l : LineAddr) (critical : WordIdx) : Operation :=
  { kind := .fill slot, region := r, line := l, extent := .line critical, data := zeroLine, owner := none }

/-- The write of a drain entry (R70). -/
def DrainEntry.op (e : DrainEntry) : Operation :=
  { kind := .drain e.place, region := e.region, line := e.line, extent := .line 0, data := e.data, owner := none }

/-- The probe of a region: a one-word read at its probe address (R158). -/
def probeOp (r : RegionId) (c : RegionConfig) : Operation :=
  { kind := .probe, region := r, line := lineOf c.probeAddr, extent := .word (wordIdxOf c.probeAddr) 0b1111,
    data := zeroLine, owner := none }

/-- The port operation of a transaction (R145); `wt` is the write-through field. RELEASE and RESERVE_READ never make
one (R29, R43), and are shaped as a READ here. -/
def Request.portOp (q : Request) (wt : Bool) : Operation :=
  match q.txn.kind with
  | .lineRead =>
    { kind := .portRead q.port, region := q.region, line := q.txn.line, extent := .line q.txn.word, data := zeroLine,
      owner := some q.port }
  | .lineWrite =>
    { kind := .portWrite q.port wt, region := q.region, line := q.txn.line, extent := .line 0, data := q.txn.ldata,
      owner := some q.port }
  | .write | .releaseWrite =>
    { kind := .portWrite q.port wt, region := q.region, line := q.txn.line, extent := .word q.txn.word q.txn.lanes,
      data := Vector.replicate 8 q.txn.wdata, owner := some q.port }
  | .read | .reserveRead | .release =>
    { kind := .portRead q.port, region := q.region, line := q.txn.line, extent := .word q.txn.word q.txn.lanes,
      data := zeroLine, owner := some q.port }

/-! ## The control window (R18, R183) -/

/-- Whether an address lies in the control window, 0xFFFF_F000 to 0xFFFF_FFFF (R18). -/
def inWindow (a : Word) : Bool := pageOf a == 0xFFFFF

/-- The registers of the control window (R183). -/
inductive Reg
  | hubState
  | portCfg (k : Port)
  | portCmd
  | resTime
  | noticeTime
  | urgency
  | regionCmd
  | sweepCmd
  | sweepStatus0
  | sweepStatus1
  | lineQuery0
  | lineQuery1
  | eventHead0
  | eventHead1
  | eventPop
  | eventStatus
  | regionWord (n : RegionId) (w : Fin 4)
  deriving DecidableEq, Repr

/-- A register's access (R183). -/
inductive Access
  | readOnly | writeOnly | readWrite
  deriving DecidableEq, Repr

/-- The access of each register (R183, its third column). -/
def Reg.access : Reg → Access
  | .hubState => .readWrite
  | .portCfg _ => .readWrite
  | .portCmd => .writeOnly
  | .resTime => .readWrite
  | .noticeTime => .readWrite
  | .urgency => .readWrite
  | .regionCmd => .writeOnly
  | .sweepCmd => .writeOnly
  | .sweepStatus0 => .readOnly
  | .sweepStatus1 => .readOnly
  | .lineQuery0 => .readWrite
  | .lineQuery1 => .readOnly
  | .eventHead0 => .readOnly
  | .eventHead1 => .readOnly
  | .eventPop => .writeOnly
  | .eventStatus => .readOnly
  | .regionWord _ _ => .readWrite

/-- The offset of a word in the window: address bits 11:2 with bits 1:0 zero (R1, R179). -/
def offsetOf (a : Word) : Nat := (a.extractLsb' 2 10).toNat * 4

/-- The register at an offset of the window, none where the offset is unassigned (R183, its first column). -/
def regAt (off : Nat) : Option Reg :=
  if off = 0x000 then some .hubState
  else if off = 0x010 then some (.portCfg 0)
  else if off = 0x014 then some (.portCfg 1)
  else if off = 0x018 then some (.portCfg 2)
  else if off = 0x01C then some (.portCfg 3)
  else if off = 0x020 then some .portCmd
  else if off = 0x030 then some .resTime
  else if off = 0x034 then some .noticeTime
  else if off = 0x038 then some .urgency
  else if off = 0x040 then some .regionCmd
  else if off = 0x050 then some .sweepCmd
  else if off = 0x054 then some .sweepStatus0
  else if off = 0x058 then some .sweepStatus1
  else if off = 0x060 then some .lineQuery0
  else if off = 0x064 then some .lineQuery1
  else if off = 0x070 then some .eventHead0
  else if off = 0x074 then some .eventHead1
  else if off = 0x078 then some .eventPop
  else if off = 0x07C then some .eventStatus
  else if 0x100 ≤ off && off < 0x180 && off % 4 = 0 then
    some (.regionWord (Fin.ofNat 8 ((off - 0x100) / 16)) (Fin.ofNat 4 ((off - 0x100) / 4)))
  else none

/-- The register a transaction to the window addresses. -/
def regOf (t : Transaction) : Option Reg := regAt (offsetOf t.addr)

/-- HUB_STATE bits 1:0: the command written (R183). -/
def hubCmd (v : Word) : BitVec 2 := v.extractLsb' 0 2

/-- PORT_CMD bits 1:0: the port named (R183). -/
def portCmdPort (v : Word) : Port := ⟨(v.extractLsb' 0 2).toNat, (v.extractLsb' 0 2).isLt⟩

/-- PORT_CMD bits 9:8: the command (R183). -/
def portCmdCode (v : Word) : BitVec 2 := v.extractLsb' 8 2

/-- REGION_CMD bits 2:0: the region named (R183). -/
def regionCmdRegion (v : Word) : RegionId := ⟨(v.extractLsb' 0 3).toNat, (v.extractLsb' 0 3).isLt⟩

/-- REGION_CMD bits 10:8: the command (R183). -/
def regionCmdCode (v : Word) : BitVec 3 := v.extractLsb' 8 3

/-- SWEEP_CMD bits 2:0: the command (R183). -/
def sweepCmdCode (v : Word) : BitVec 3 := v.extractLsb' 0 3

/-- SWEEP_CMD bits 7 and 6:4: the filter, none for ALL (R183, R187). -/
def sweepCmdFilter (v : Word) : Option RegionId :=
  if v.getLsbD 7 then none else some ⟨(v.extractLsb' 4 3).toNat, (v.extractLsb' 4 3).isLt⟩

/-- The width of a width code: 1 is 8, 2 is 16, 3 is 32, and 0 is out of range (R183, R186). -/
def widthOfCode (c : BitVec 2) : Option Width :=
  if c = 1 then some .w8 else if c = 2 then some .w16 else if c = 3 then some .w32 else none

/-- A region's configuration after a write of `v` to word `w` of its REGION group, none where a value is out of range
(R130, R186). A write to one word changes the fields of that word alone. -/
def RegionConfig.write (c : RegionConfig) (w : Fin 4) (v : Word) : Option RegionConfig :=
  if w = 0 then
    if v.extractLsb' 0 12 = 0 then some { c with base := pageOf v } else none
  else if w = 1 then
    if v.extractLsb' 0 12 = 0 then some { c with limit := pageOf v } else none
  else if w = 2 then
    match widthOfCode (v.extractLsb' 0 2) with
    | none => none
    | some width =>
      if v.extractLsb' 4 8 = 0 || v.extractLsb' 12 3 = 0 || v.extractLsb' 16 8 = 0 then none
      else some { c with
        width := width, cacheable := v.getLsbD 2, writeThrough := v.getLsbD 3,
        readyTimeout := v.extractLsb' 4 8, threshold := v.extractLsb' 12 3, probeInterval := v.extractLsb' 16 8 }
  else
    if v.extractLsb' 0 2 = 0 then some { c with probeOffset := v } else none

end Sys2Proof.Machine
end

