-- ==== Sys2Proof/Machine/Flags.lean ====
section
/-! DEFINITION. What the state shows: the URGENT flag, the event lines, the notice channels, the device bus, and the
words the control window reads back (R14, R102, R180, R183, R189, R193). -/

namespace Sys2Proof.Machine

/-! ## Flags and output pins -/

/-- A port that is COHERENT and ATTACHED (R4, R49). -/
def Mode.attached : Mode → Bool
  | .plain => false
  | .coherent a => a

/-- A COHERENT port, ATTACHED or DETACHED (R8). -/
def Mode.isCoherent : Mode → Bool
  | .plain => false
  | .coherent _ => true

/-- The URGENT flag: the retry count at or above URGENCY (R14). -/
def State.urgent (s : State) (k : Port) : Bool := s.urgency.toNat ≤ s.ports[k].retry

/-- The event line: event enable set and at least one record in the event queue; deasserted while the power-on reset
pin is asserted (R193, R195). -/
def State.eventLine (s : State) (k : Port) : Bool :=
  !s.porPin && s.ports[k].eventEnable && !s.events.records.isEmpty

/-- The notice on the notice channel: the head of the queue, nothing while it is empty or the power-on reset pin is
asserted (R102, R195). -/
def State.noticeShown (s : State) (k : Port) : Option Notice := if s.porPin then none else s.notices[k].queue.head?

/-- The transfer that the Device Port presents, none in IDLE (R136). -/
def DevPhase.presented : DevPhase → Option Transfer
  | .idle => none
  | .busy now _ _ _ _ => some now
  | .clearing orphan _ => some orphan

/-- The transfer on the device bus, none while the power-on reset pin is asserted (R136, R195). -/
def State.busTransfer (s : State) : Option Transfer := if s.porPin then none else s.dev.phase.presented

/-- The write data lanes on the device bus: the bytes of the strobed lanes for a write (R137, R196); the lanes that carry
no byte to write hold a free value (DESIGN CHOICE, notes/assumptions/17.md). -/
def Transfer.busData (t : Transfer) : Word :=
  mergeLanes (if t.write then t.lanes else 0) (Config.unstrobedData t.addr t.write t.lanes t.data) t.data

/-! ## Words -/

/-- A number placed at a bit position of a word. -/
def field (pos v : Nat) : Word := BitVec.ofNat 32 v <<< pos

/-- A flag placed at a bit position of a word. -/
def flag (pos : Nat) (b : Bool) : Word := field pos b.toNat

/-- A set of ports, one bit for each port from a bit position up. -/
def portBits (pos : Nat) (S : PortSet) : Word :=
  flag pos S[0] ||| flag (pos + 1) S[1] ||| flag (pos + 2) S[2] ||| flag (pos + 3) S[3]

/-- The notice word: line address in bits 31:5, and the kind in bit 0 (R102, R189); bits 4:1, which R189 assigns to
nothing, are a free value (DESIGN CHOICE, notes/assumptions/16.md). -/
def Notice.word (n : Notice) : Word :=
  lineWord n.line ||| field 1 (Config.noticeSpare n.line (n.kind == .revoke)).toNat ||| flag 0 (n.kind == .revoke)

/-- The word on port `k`'s notice channel (R102). -/
def State.noticeWord (s : State) (k : Port) : Option Word := (s.noticeShown k).map Notice.word

/-- The record kind, word 0 bits 3:0 (R189). -/
def Event.kindCode : Event → Nat
  | .regionOfflineTimeout _ _ => 1
  | .regionOfflineForced _ _ => 1
  | .regionOnlineProbe _ => 2
  | .regionOnlineForced _ _ => 2
  | .drainLost _ _ _ => 3
  | .writeLost _ _ _ _ => 4
  | .foreignConflict _ _ _ => 5
  | .portDetached _ _ _ => 6
  | .sweepDone _ _ _ => 7
  | .hubReset _ => 8

/-- The record detail, word 0 bits 7:4, 0 when absent (R189). -/
def Event.detailCode : Event → Nat
  | .regionOfflineTimeout _ _ => 1
  | .regionOfflineForced _ _ => 2
  | .regionOnlineProbe _ => 1
  | .regionOnlineForced _ _ => 2
  | .drainLost .evict _ _ => 1
  | .drainLost .copy _ _ => 2
  | .writeLost .device _ _ _ => 1
  | .writeLost .offline _ _ _ => 2
  | .writeLost .abandoned _ _ _ => 3
  | .foreignConflict .dirtyDropped _ _ => 1
  | .foreignConflict .drainPending _ _ => 2
  | .foreignConflict .both _ _ => 3
  | .portDetached .invalidate _ _ => 1
  | .portDetached .revoke _ _ => 2
  | .sweepDone false _ _ => 1
  | .sweepDone true _ _ => 2
  | .hubReset _ => 0

/-- The port a record carries (R189). -/
def Event.port? : Event → Option Port
  | .regionOfflineTimeout _ _ => none
  | .regionOfflineForced _ k => some k
  | .regionOnlineProbe _ => none
  | .regionOnlineForced _ k => some k
  | .drainLost _ _ _ => none
  | .writeLost _ k _ _ => some k
  | .foreignConflict _ _ _ => none
  | .portDetached _ k _ => some k
  | .sweepDone _ k _ => some k
  | .hubReset k => some k

/-- The region a record carries (R189). -/
def Event.region? : Event → Option RegionId
  | .regionOfflineTimeout r _ => some r
  | .regionOfflineForced r _ => some r
  | .regionOnlineProbe r => some r
  | .regionOnlineForced r _ => some r
  | .drainLost _ r _ => some r
  | .writeLost _ _ r _ => some r
  | .foreignConflict _ r _ => some r
  | .portDetached _ _ _ => none
  | .sweepDone _ _ f => f
  | .hubReset _ => none

/-- The line a record carries (R189). -/
def Event.line? : Event → Option LineAddr
  | .regionOfflineTimeout _ l => some l
  | .regionOfflineForced _ _ => none
  | .regionOnlineProbe _ => none
  | .regionOnlineForced _ _ => none
  | .drainLost _ _ l => some l
  | .writeLost _ _ _ l => some l
  | .foreignConflict _ _ l => some l
  | .portDetached _ _ l => some l
  | .sweepDone _ _ _ => none
  | .hubReset _ => none

/-- Word 0 of a record (R189). The port and region bits of an absent port or region are free values drawn with `n`
(DESIGN CHOICE, notes/assumptions/5.md). -/
def Event.word0 (e : Event) (n : Nat) : Word :=
  field 0 e.kindCode ||| field 4 e.detailCode |||
  flag 8 e.port?.isSome ||| field 9 (e.port?.getD (Config.absentPort n)).val |||
  flag 11 e.region?.isSome ||| field 12 (e.region?.getD (Config.absentRegion n)).val |||
  flag 15 e.line?.isSome

/-- Word 1 of a record: its line address, zero when absent (R189). -/
def Event.word1 (e : Event) : Word := (e.line?.map lineWord).getD 0

/-- PORT_CFG read back (R183, R184). -/
def State.portCfgWord (s : State) (k : Port) : Word :=
  flag 0 s.ports[k].mode.isCoherent ||| flag 1 s.ports[k].permission ||| flag 2 s.ports[k].eventEnable |||
  flag 4 s.ports[k].mode.attached ||| flag 5 (s.urgent k) ||| field 8 s.ports[k].retry

/-- The code of the sweep state (R183). -/
def SweepState.code : SweepState → Nat
  | .idle => 0
  | .running => 1
  | .waitingDrain => 2
  | .waitingNotice _ => 2

/-- The code of what a sweep waits for (R183). -/
def SweepState.waitCode : SweepState → Nat
  | .idle => 0
  | .running => 0
  | .waitingDrain => 1
  | .waitingNotice _ => 2

/-- The waiting set, empty unless the sweep waits for NOTICE_ROOM (R166). -/
def SweepState.waitSet : SweepState → PortSet
  | .idle => PortSet.empty
  | .running => PortSet.empty
  | .waitingDrain => PortSet.empty
  | .waitingNotice S => S

/-- The code of a sweep command, 0 when absent (R183). -/
def sweepCommandCode : Option SweepCommand → Nat
  | none => 0
  | some .clean => 1
  | some .flush => 2
  | some .discard => 3

/-- SWEEP_STATUS word 0 (R166, R183). The filter region bits under filter ALL are a free value drawn with `fresh`
(DESIGN CHOICE, notes/assumptions/5.md). -/
def State.sweepStatus0 (s : State) : Word :=
  field 0 s.sweep.state.code ||| field 2 (sweepCommandCode s.sweep.command) |||
  flag 4 s.sweep.filter.isNone ||| field 5 (s.sweep.filter.getD (Config.absentFilter s.fresh)).val |||
  field 8 s.sweep.issuer.val ||| field 10 s.sweep.state.waitCode ||| portBits 12 s.sweep.state.waitSet |||
  flag 16 s.sweep.aborted ||| field 17 s.sweep.set.val ||| field 24 s.sweep.way.val |||
  field 26 s.drains.length ||| field 28 (s.drains.filter (·.held)).length

/-- SWEEP_STATUS word 1 (R183). -/
def Sweep.status1 (w : Sweep) : Word := field 0 w.writtenBack ||| field 10 w.invalidated ||| field 20 w.skipped

/-- The code of a line state (R183). -/
def LineState.code : LineState → Nat
  | .invalid => 0
  | .clean => 1
  | .dirty => 2
  | .filling => 3

/-- LINE_QUERY word 0: the snapshot (R183). -/
def Snapshot.word0 (p : Snapshot) : Word :=
  field 0 p.state.code ||| field 2 p.way.val ||| portBits 4 p.sharers ||| flag 8 p.regionPresent |||
  field 9 p.region.val ||| flag 12 p.reserved ||| field 13 p.owner.val ||| field 15 p.word.val |||
  field 18 p.drains ||| field 20 p.slot.val

/-- EVENT_STATUS (R183, R192). -/
def EventQueue.status (q : EventQueue) : Word := field 0 q.records.length ||| flag 8 q.overflow

/-- The code of a width (R183). -/
def Width.code : Width → Nat
  | .w8 => 1
  | .w16 => 2
  | .w32 => 3

/-- The code of a health state (R183). -/
def Health.code : Health → Nat
  | .disabled => 0
  | .online => 1
  | .offline => 2

/-- A word of a REGION group read back (R183, R186). -/
def Region.word (g : Region) (w : Fin 4) : Word :=
  if w = 0 then g.cfg.base ++ 0#12
  else if w = 1 then g.cfg.limit ++ 0#12
  else if w = 2 then
    field 0 g.cfg.width.code ||| flag 2 g.cfg.cacheable ||| flag 3 g.cfg.writeThrough |||
    field 4 g.cfg.readyTimeout.toNat ||| field 12 g.cfg.threshold.toNat ||| field 16 g.cfg.probeInterval.toNat |||
    field 24 g.health.code ||| field 28 g.count
  else g.cfg.probeOffset

/-- The word a READ of EVENT_HEAD word 0 returns: word 0 of the head record, zero if the queue is empty (R191). -/
def State.eventHead0 (s : State) : Word :=
  match s.events.records with
  | [] => 0
  | e :: _ => e.word0 s.fresh

/-- The word a READ of EVENT_HEAD word 0 loads into the reading port's latch (R191). -/
def State.eventHead1 (s : State) : Word :=
  match s.events.records with
  | [] => 0
  | e :: _ => e.word1

/-- The word a READ of a register by port `k` returns (R180, R183); a register that is written only reads zero. -/
def State.readReg (s : State) (k : Port) : Reg → Word
  | .hubState => flag 0 (s.hub == .run)
  | .portCfg j => s.portCfgWord j
  | .portCmd => 0
  | .resTime => s.resTime.setWidth 32
  | .noticeTime => s.noticeTime.setWidth 32
  | .urgency => s.urgency.setWidth 32
  | .regionCmd => 0
  | .sweepCmd => 0
  | .sweepStatus0 => s.sweepStatus0
  | .sweepStatus1 => s.sweep.status1
  | .lineQuery0 => s.snapshot.word0
  | .lineQuery1 => lineWord s.snapshot.line
  | .eventHead0 => s.eventHead0
  | .eventHead1 => s.latches[k]
  | .eventPop => 0
  | .eventStatus => s.events.status
  | .regionWord n w => s.regions[n].word w

end Sys2Proof.Machine
end

