-- ==== Sys2Proof/Machine/Ops.lean ====
section
/-! DEFINITION. The named operations over the hub's blocks, written once and shared by the meanings: responses, event
records, notices, the directory's entries and recency lists, the Reservation Table, the drain buffer, the device
operation queue, the end of a fill, a region's departures and returns, and the time base. -/

namespace Sys2Proof.Machine

/-! ## One happening -/

/-- The state with no output shown. -/
def State.quiet (s : State) : State := { s with out := Outputs.none }

/-- A happening. Nothing comes about while the power-on reset pin is asserted (R195), nor where its condition does not
hold (DESIGN CHOICE, notes/assumptions/2.md); otherwise the outputs of the latest happening give way to this one's. -/
def happen (s : State) (possible : Bool) (f : State → State) : Host.Outcome State Fault Refusal :=
  if s.porPin || !possible then .next s else .next (f s.quiet)

/-! ## Ports and responses -/

/-- The state with port `k` replaced. -/
def State.setPort (s : State) (k : Port) (p : MasterPort) : State := { s with ports := setAt s.ports k p }

/-- Port `k`'s transaction takes the placement `p` (R6). -/
def State.place (s : State) (k : Port) (p : Placement) : State := s.setPort k { s.ports[k] with flight := some p }

/-- The retry count after a response (R13). -/
def retryAfter (r : Response) (n : Nat) : Nat :=
  match r with
  | .retry _ => min (n + 1) 15
  | .done _ => 0
  | .late => 0
  | .fault _ => 0

/-- A port after a response: IDLE, its retry count updated (R7, R13). -/
def MasterPort.answered (p : MasterPort) (r : Response) : MasterPort :=
  { p with flight := none, retry := retryAfter r p.retry }

/-- Delivering a response to port `k` (R7). -/
def State.respond (s : State) (k : Port) (r : Response) : State :=
  { s with
    ports := setAt s.ports k (s.ports[k].answered r)
    out := { s.out with responses := s.out.responses ++ [(k, r)] } }

/-! ## Event records (R190) -/

/-- The queue with a record placed: stored at the tail while it holds fewer than 16, lost with the overflow flag set
otherwise (R190). -/
def EventQueue.push (q : EventQueue) (e : Event) : EventQueue :=
  if q.records.length < 16 then { q with records := q.records ++ [e] } else { q with overflow := true }

/-- Placing an event record (R190). -/
def State.record (s : State) (e : Event) : State := { s with events := s.events.push e }

/-! ## Notices -/

/-- Whether a queue holds a notice naming the line (R34). -/
def NoticeQueue.names (q : NoticeQueue) (l : LineAddr) : Bool := q.queue.any fun n => n.line == l

/-- Notice room for a line: fewer than 4 notices, or one that names the line (R34). -/
def NoticeQueue.hasRoom (q : NoticeQueue) (l : LineAddr) : Bool := q.queue.length < 4 || q.names l

/-- The ports of a set that lack notice room for a line (R98). -/
def State.lacking (s : State) (S : PortSet) (l : LineAddr) : PortSet :=
  Vector.ofFn fun k => S[k] && !s.notices[k].hasRoom l

/-- A queue that is sent a notice: unchanged where it already names the line; otherwise the notice joins the tail, and
the timer starts if the queue was empty (R99, R104). -/
def NoticeQueue.sent (q : NoticeQueue) (kind : NoticeKind) (l : LineAddr) (time : Nat) : NoticeQueue :=
  if q.names l then q
  else { queue := q.queue ++ [{ kind := kind, line := l }],
         timer := if q.queue.isEmpty then some time else q.timer }

/-- Queuing a notice to every port of a set (R99). -/
def State.sendNotices (s : State) (kind : NoticeKind) (l : LineAddr) (S : PortSet) : State :=
  { s with notices := Vector.ofFn fun k =>
      if S[k] then s.notices[k].sent kind l s.noticeTime.toNat else s.notices[k] }

/-- A DEFERRED head after a notice has left port `k`'s queue: PENDING if `k` is in the waiting set (R125). -/
def ForeignFifo.roomGained (f : ForeignFifo) (k : Port) : ForeignFifo :=
  match f.deferred with
  | none => f
  | some S => if S[k] then { f with deferred := none } else f

/-- A sweep after a notice has left port `k`'s queue: RUNNING if it waits for NOTICE_ROOM with `k` in the waiting set
(R174). -/
def Sweep.roomGained (w : Sweep) (k : Port) : Sweep :=
  match w.state with
  | .waitingNotice S => if S[k] then { w with state := .running } else w
  | .idle => w
  | .running => w
  | .waitingDrain => w

/-- What a notice's departure from port `k`'s queue lets go on (R112, R125, R174). -/
def State.roomGained (s : State) (k : Port) : State :=
  { s with fifo := s.fifo.roomGained k, sweep := s.sweep.roomGained k }

/-- Emptying port `k`'s notice queue, with its timer STOPPED (R104, R107, R113). -/
def State.emptyNotices (s : State) (k : Port) : State :=
  { s with
    notices := setAt s.notices k NoticeQueue.empty
    fifo := if s.notices[k].queue.isEmpty then s.fifo else s.fifo.roomGained k
    sweep := if s.notices[k].queue.isEmpty then s.sweep else s.sweep.roomGained k }

/-! ## The Line Directory -/

/-- The entry of a way. -/
def State.entry (s : State) (si : SetIdx) (w : WayIdx) : Entry := s.dir[si].ways[w]

/-- The state with an entry replaced. -/
def State.setEntry (s : State) (si : SetIdx) (w : WayIdx) (e : Entry) : State :=
  { s with dir := setAt s.dir si { s.dir[si] with ways := setAt s.dir[si].ways w e } }

/-- A recency list with a way moved to the front (R39). -/
def moveFront (w : WayIdx) (l : List WayIdx) : List WayIdx := w :: l.filter fun x => x != w

/-- A recency list with a way moved to the back (R39). -/
def moveBack (w : WayIdx) (l : List WayIdx) : List WayIdx := (l.filter fun x => x != w) ++ [w]

/-- A way moves to the front of its set's recency list (R39). -/
def State.touch (s : State) (si : SetIdx) (w : WayIdx) : State :=
  { s with dir := setAt s.dir si { s.dir[si] with recency := moveFront w s.dir[si].recency } }

/-- A way moves to the back of its set's recency list (R39). -/
def State.sink (s : State) (si : SetIdx) (w : WayIdx) : State :=
  { s with dir := setAt s.dir si { s.dir[si] with recency := moveBack w s.dir[si].recency } }

/-- What a CLEAN or DIRTY way holds. -/
def Entry.held? : Entry → Option Held
  | .clean h => some h
  | .dirty h => some h
  | .invalid => none
  | .filling _ _ _ => none

/-- The tag a way is compared by: INVALID ways take no part (R27). -/
def Entry.tag? : Entry → Option Tag
  | .invalid => none
  | .clean h => some h.tag
  | .dirty h => some h.tag
  | .filling t _ _ => some t

/-- The region a way belongs to (R25). -/
def Entry.region? : Entry → Option RegionId
  | .invalid => none
  | .clean h => some h.region
  | .dirty h => some h.region
  | .filling _ r _ => some r

/-- Whether a way is DIRTY. -/
def Entry.isDirty : Entry → Bool
  | .dirty _ => true
  | .invalid => false
  | .clean _ => false
  | .filling _ _ _ => false

/-- The sharer set of a way, empty in FILLING and INVALID (R25). -/
def Entry.sharers (e : Entry) : PortSet := (e.held?.map (·.sharers)).getD PortSet.empty

/-- The way of the line's set that holds the line CLEAN, DIRTY or FILLING (R27). -/
def State.lookup (s : State) (l : LineAddr) : Option WayIdx :=
  allWays.find? fun w => (s.entry (setOf l) w).tag? == some (tagOf l)

/-- A sweep whose way becomes INVALID or is allocated to another line becomes RUNNING (R174, third row). -/
def Sweep.wayChanged (w : Sweep) (si : SetIdx) (wy : WayIdx) : Sweep :=
  if w.set = si && w.way = wy then
    match w.state with
    | .waitingDrain => { w with state := .running }
    | .waitingNotice _ => { w with state := .running }
    | .idle => w
    | .running => w
  else w

/-- A way becomes INVALID and moves to the back of its set's recency list (R39, R174). -/
def State.invalidate (s : State) (si : SetIdx) (w : WayIdx) : State :=
  { (s.setEntry si w .invalid).sink si w with sweep := s.sweep.wayChanged si w }

/-- An entry with port `k` out of its sharer set (R50). -/
def Entry.dropSharer (k : Port) : Entry → Entry
  | .clean h => .clean { h with sharers := h.sharers.erase k }
  | .dirty h => .dirty { h with sharers := h.sharers.erase k }
  | .invalid => .invalid
  | .filling t r f => .filling t r f

/-- A set with port `k` out of every sharer set (R50). -/
def DirSet.dropSharer (d : DirSet) (k : Port) : DirSet := { d with ways := mapAll d.ways (Entry.dropSharer k) }

/-- Port `k` leaves every sharer set (R50). -/
def State.dropSharer (s : State) (k : Port) : State := { s with dir := mapAll s.dir fun d => d.dropSharer k }

/-! ## The Reservation Table -/

/-- Whether an entry is HELD for the line. -/
def reserves (l : LineAddr) : Option Reservation → Bool
  | none => false
  | some r => r.line == l

/-- The entry that names a line, and its number (R78). -/
def State.resOf (s : State) (l : LineAddr) : Option ResId := allRes.find? fun i => reserves l s.res[i]

/-- The port that holds the line's reservation (R78). -/
def State.reserver (s : State) (l : LineAddr) : Option Port := (s.resOf l).bind fun i => s.res[i].map (·.owner)

/-- Whether a line is reserved by a port other than `k` (R30). -/
def State.reservedByOther (s : State) (l : LineAddr) (k : Port) : Bool :=
  match s.reserver l with
  | none => false
  | some j => j != k

/-- Whether an entry is HELD for port `k`. -/
def ownedBy (k : Port) : Option Reservation → Bool
  | none => false
  | some r => r.owner == k

/-- How many HELD entries port `k` owns (R78). -/
def State.owned (s : State) (k : Port) : Nat := (allRes.filter fun i => ownedBy k s.res[i]).length

/-- The lowest-numbered FREE entry; none says that all six are HELD (R79, R81). -/
def State.freeRes (s : State) : Option ResId := allRes.find? fun i => s.res[i].isNone

/-- The reservation a grant or refresh makes (R81, R82). -/
def State.reservation (s : State) (k : Port) (l : LineAddr) (w : WordIdx) : Reservation :=
  { owner := k, line := l, word := w, remaining := s.resTime.toNat }

/-- Entry `i` takes a reservation, by a grant (R81) or a refresh (R82). -/
def State.setRes (s : State) (i : ResId) (r : Reservation) : State := { s with res := setAt s.res i (some r) }

/-- The entry of a line becomes FREE (R78, R87, R88, R93). -/
def State.freeLine (s : State) (l : LineAddr) : State :=
  { s with res := mapAll s.res fun r => if reserves l r then none else r }

/-- Every entry port `k` owns becomes FREE (R94). -/
def State.freeOwned (s : State) (k : Port) : State :=
  { s with res := mapAll s.res fun r => if ownedBy k r then none else r }

/-! ## Regions -/

/-- The state with a region table entry replaced. -/
def State.setRegion (s : State) (r : RegionId) (g : Region) : State := { s with regions := setAt s.regions r g }

/-- The enabled region that contains an address (R20). -/
def State.regionAt (s : State) (a : Word) : Option RegionId :=
  allRegions.find? fun r => s.regions[r].enabled && s.regions[r].cfg.covers (pageOf a)

/-- Whether a region is OFFLINE. -/
def State.isOffline (s : State) (r : RegionId) : Bool := s.regions[r].health == .offline

/-- Whether a region is a write-through region (R128). -/
def State.isWriteThrough (s : State) (r : RegionId) : Bool := s.regions[r].cfg.isWriteThrough

/-! ## The device operation queue (R134, R136) -/

/-- The Device Port's state as it turns to the queue's head: BUSY with the head's first transfer presented and its
ready timer started, or IDLE (R136, R139). -/
def presentHead (regions : Vector Region 8) (queue : List Operation) : DevPhase :=
  match queue with
  | [] => .idle
  | op :: _ =>
    match op.transfers regions[op.region].cfg.width with
    | [] => .idle
    | t :: rest => .busy t regions[op.region].cfg.readyTimeout.toNat rest 0 []

/-- An IDLE Device Port turns to the queue's head (R136). -/
def DevicePort.kick (d : DevicePort) (regions : Vector Region 8) : DevicePort :=
  match d.phase with
  | .idle => { d with phase := presentHead regions d.queue }
  | .busy _ _ _ _ _ => d
  | .clearing _ _ => d

/-- An operation joins the tail of the queue (R134, R136). -/
def DevicePort.join (d : DevicePort) (regions : Vector Region 8) (op : Operation) : DevicePort :=
  ({ d with queue := d.queue ++ [op] }).kick regions

/-- An operation joins the tail of the device operation queue. -/
def State.enqueue (s : State) (op : Operation) : State := { s with dev := s.dev.join s.regions op }

/-- The Device Port turns to the head of the queue if no transfer is presented. -/
def State.kick (s : State) : State := { s with dev := s.dev.kick s.regions }

/-- Port `k`'s operation is made: it joins the queue and the place becomes ACTIVE, or it is parked while the place is
ORPHANED (R145, R149). -/
def DevicePort.submit (d : DevicePort) (regions : Vector Region 8) (k : Port) (op : Operation) : DevicePort :=
  match d.places[k] with
  | .orphaned _ => { d with places := setAt d.places k (.orphaned (some op)) }
  | .free => ({ d with places := setAt d.places k .active }).join regions op
  | .active => ({ d with places := setAt d.places k .active }).join regions op

/-- The directory makes a port operation for a transaction, whose placement becomes PORT_OP (R145). -/
def State.makePortOp (s : State) (q : Request) (wt : Bool) : State :=
  { s with
    dev := s.dev.submit s.regions q.port (q.portOp wt)
    ports := setAt s.ports q.port { s.ports[q.port] with flight := some .portOp } }

/-- Port `k`'s place after its operation has left the queue: FREE, or ACTIVE with the parked operation joined (R146,
R148, R149). -/
def DevicePort.release (d : DevicePort) (regions : Vector Region 8) (k : Port) : DevicePort :=
  match d.places[k] with
  | .orphaned (some op) => ({ d with places := setAt d.places k .active }).join regions op
  | .orphaned none => { d with places := setAt d.places k .free }
  | .free => { d with places := setAt d.places k .free }
  | .active => { d with places := setAt d.places k .free }

/-- Port `k`'s operation has left the queue. -/
def State.releasePlace (s : State) (k : Port) : State := { s with dev := s.dev.release s.regions k }

/-- The head leaves the queue, and no transfer is presented (R143). -/
def DevicePort.popHead (d : DevicePort) : DevicePort := { d with queue := d.queue.tail, phase := .idle }

/-- The head leaves the device operation queue. -/
def State.popHead (s : State) : State := { s with dev := s.dev.popHead }

/-- The Device Port's state when operations leave the queue: a head that leaves with a transfer presented leaves that
transfer as an orphan (R136, R144, R162). -/
def stopped (leaves : Operation → Bool) (phase : DevPhase) (queue : List Operation) : DevPhase :=
  match phase, queue with
  | .busy now timer rest gathered kept, op :: _ =>
    if leaves op then .clearing now timer else .busy now timer rest gathered kept
  | .busy now timer rest gathered kept, [] => .busy now timer rest gathered kept
  | .idle, _ => .idle
  | .clearing orphan timer, _ => .clearing orphan timer

/-- Operations leave the queue from wherever they stand (R134, R144, R162). -/
def DevicePort.remove (d : DevicePort) (leaves : Operation → Bool) : DevicePort :=
  { d with queue := d.queue.filter fun op => !leaves op, phase := stopped leaves d.phase d.queue }

/-- Whether an operation is of region `r`. -/
def Operation.ofRegion (r : RegionId) (op : Operation) : Bool := op.region == r

/-- The parked operation of a place. -/
def Place.parked : Place → Option Operation
  | .free => none
  | .active => none
  | .orphaned p => p

/-- A place with its parked operation taken away if it is of region `r` (R149). -/
def Place.unpark (r : RegionId) : Place → Place
  | .free => .free
  | .active => .active
  | .orphaned none => .orphaned none
  | .orphaned (some op) => if op.ofRegion r then .orphaned none else .orphaned (some op)

/-- The parked operations of region `r`, by port number (R153). -/
def DevicePort.parkedOf (d : DevicePort) (r : RegionId) : List Operation :=
  (allPorts.filterMap fun k => d.places[k].parked).filter (Operation.ofRegion r)

/-- Every queued and parked operation of region `r` is taken away (R144, R149). -/
def DevicePort.strip (d : DevicePort) (r : RegionId) : DevicePort :=
  { d.remove (Operation.ofRegion r) with places := mapAll d.places (Place.unpark r) }

/-! ## The drain buffer -/

/-- The lowest place no drain entry has. -/
def freeDrainPlace (drains : List DrainEntry) : DrainPlace := if drains.any (·.place == 0) then 1 else 0

/-- Whether a drain entry names the line (R41, R76). -/
def State.draining (s : State) (l : LineAddr) : Bool := s.drains.any fun e => e.line == l

/-- The drain buffer has room for an entry (R70). -/
def State.drainRoom (s : State) : Bool := s.drains.length < 2

/-- The drain entry a line makes. -/
def State.newDrain (s : State) (kind : DrainKind) (l : LineAddr) (h : Held) : DrainEntry :=
  { place := freeDrainPlace s.drains, line := l, data := h.data, region := h.region, kind := kind, held := false }

/-- A drain entry is made at the tail of the buffer, QUEUED, and its write joins the device operation queue (R70). -/
def State.addDrain (s : State) (kind : DrainKind) (l : LineAddr) (h : Held) : State :=
  { s with drains := s.drains ++ [s.newDrain kind l h], dev := s.dev.join s.regions (s.newDrain kind l h).op }

/-- A sweep that waits for DRAIN_ROOM becomes RUNNING when an entry leaves the buffer (R174). -/
def Sweep.drainLeft (w : Sweep) : Sweep :=
  match w.state with
  | .waitingDrain => { w with state := .running }
  | .waitingNotice _ => w
  | .idle => w
  | .running => w

/-- The entry at a place leaves the buffer (R72, R73, R74). -/
def State.dropDrain (s : State) (p : DrainPlace) : State :=
  { s with drains := s.drains.filter fun e => e.place != p, sweep := s.sweep.drainLeft }

/-- The entry at a place becomes HELD (R74, R75). -/
def State.holdDrain (s : State) (p : DrainPlace) : State :=
  { s with drains := s.drains.map fun e => if e.place = p then { e with held := true } else e }

/-- The entry at a place. -/
def State.drainAt (s : State) (p : DrainPlace) : Option DrainEntry := s.drains.find? fun e => e.place == p

/-- Whether an entry younger than the one at a place names the line (R74). -/
def superseded (p : DrainPlace) (l : LineAddr) : List DrainEntry → Bool
  | [] => false
  | e :: es => if e.place = p then es.any fun y => y.line == l else superseded p l es

/-! ## Hit service (R30) -/

/-- The keep flag of a LINE_READ served from the cache: KEEP carried by a port that is COHERENT and ATTACHED (R4,
R32, R49). -/
def State.keepHonoured (s : State) (q : Request) : Bool := q.txn.keep && s.ports[q.port].mode.attached

/-- A READ that hits (R31). -/
def State.serveRead (s : State) (q : Request) (w : WayIdx) (h : Held) : State :=
  (s.touch (setOf q.txn.line) w).respond q.port (.done (.word (maskLanes q.txn.lanes h.data[q.txn.word])))

/-- An entry with its held part replaced, CLEAN or DIRTY as it was. -/
def Entry.withHeld (h : Held) : Entry → Entry
  | .clean _ => .clean h
  | .dirty _ => .dirty h
  | .invalid => .invalid
  | .filling t r f => .filling t r f

/-- A held line with a port among its sharers if the keep flag is KEEP (R49). -/
def Held.share (h : Held) (k : Port) (keep : Bool) : Held :=
  if keep then { h with sharers := h.sharers.insert k } else h

/-- A LINE_READ that hits (R32). -/
def State.serveLineRead (s : State) (q : Request) (w : WayIdx) (h : Held) : State :=
  ((s.setEntry (setOf q.txn.line) w ((s.entry (setOf q.txn.line) w).withHeld (h.share q.port (s.keepHonoured q)))).touch
    (setOf q.txn.line) w).respond q.port (.done (.line (wrapLine q.txn.word h.data) (s.keepHonoured q)))

/-- The checks every write makes after the reservation: an OFFLINE write-through region, then notice room for every
sharer but the writer (R30, R34). -/
def State.writeRefusal (s : State) (q : Request) (h : Held) : Option Response :=
  if s.isWriteThrough q.region && s.isOffline q.region then some (.fault .offline)
  else if (s.lacking (h.sharers.erase q.port) q.txn.line).any then some (.retry .noticeFull)
  else none

/-- The entry a performed write leaves: DIRTY in a write-back region, CLEAN in a write-through region, with no sharer
but the writer (R33, R34, R35). -/
def State.writtenEntry (s : State) (q : Request) (h : Held) : Entry :=
  if s.isWriteThrough q.region then
    .clean { h with data := q.txn.written h.data, sharers := h.sharers.only q.port }
  else .dirty { h with data := q.txn.written h.data, sharers := h.sharers.only q.port }

/-- The cache's part of a performed write: notices, data, state, sharers and recency (R33, R34, R35). -/
def State.writeLine (s : State) (q : Request) (w : WayIdx) (h : Held) : State :=
  ((s.sendNotices .invalidate q.txn.line (h.sharers.erase q.port)).setEntry (setOf q.txn.line) w
    (s.writtenEntry q h)).touch (setOf q.txn.line) w

/-- The answer of a performed write: DONE at once in a write-back region, a port operation in a write-through region
(R33, R35). -/
def State.finishWrite (s : State) (q : Request) : State :=
  if s.isWriteThrough q.region then s.makePortOp q true else s.respond q.port (.done .nothing)

/-- A WRITE or LINE_WRITE that hits (R30, R33, R35). -/
def State.serveWrite (s : State) (q : Request) (w : WayIdx) (h : Held) : State :=
  if s.reservedByOther q.txn.line q.port then s.respond q.port (.retry .reserved)
  else
    match s.writeRefusal q h with
    | some r => s.respond q.port r
    | none => (s.writeLine q w h).finishWrite q

/-- A RESERVE_READ performed: entry `i` takes the reservation, and the word is returned (R36, R81, R82). -/
def State.grantRead (s : State) (q : Request) (w : WayIdx) (h : Held) (i : ResId) : State :=
  (s.setRes i (s.reservation q.port q.txn.line q.txn.word)).serveRead q w h

/-- A RESERVE_READ that hits (R30, R36, R79). -/
def State.serveReserve (s : State) (q : Request) (w : WayIdx) (h : Held) : State :=
  if s.reservedByOther q.txn.line q.port then s.respond q.port (.retry .reserved)
  else
    match s.resOf q.txn.line with
    | some i => s.grantRead q w h i
    | none =>
      if 2 ≤ s.owned q.port then s.respond q.port (.fault .resLimit)
      else
        match s.freeRes with
        | none => s.respond q.port (.retry .resFull)
        | some i => s.grantRead q w h i

/-- A RELEASE_WRITE that hits (R30, R37, R87). -/
def State.serveReleaseWrite (s : State) (q : Request) (w : WayIdx) (h : Held) : State :=
  if s.reserver q.txn.line = some q.port then
    match s.writeRefusal q h with
    | some r => s.respond q.port r
    | none => ((s.writeLine q w h).freeLine q.txn.line).finishWrite q
  else s.respond q.port .late

/-- A RELEASE that hits (R30, R37, R88). -/
def State.serveRelease (s : State) (q : Request) (w : WayIdx) : State :=
  if s.reserver q.txn.line = some q.port then
    ((s.freeLine q.txn.line).touch (setOf q.txn.line) w).respond q.port (.done .nothing)
  else s.respond q.port .late

/-- Hit service of a transaction against a CLEAN or DIRTY line, by its kind (R30). -/
def State.serveHeld (s : State) (q : Request) (w : WayIdx) (h : Held) : State :=
  match q.txn.kind with
  | .read => s.serveRead q w h
  | .write => s.serveWrite q w h
  | .lineRead => s.serveLineRead q w h
  | .lineWrite => s.serveWrite q w h
  | .reserveRead => s.serveReserve q w h
  | .releaseWrite => s.serveReleaseWrite q w h
  | .release => s.serveRelease q w

/-- Hit service of a transaction against way `w` of its line's set (R30), at lookup and at fill completion alike. A
way that is neither CLEAN nor DIRTY is not a hit. -/
def State.serve (s : State) (q : Request) (w : WayIdx) : State :=
  match (s.entry (setOf q.txn.line) w).held? with
  | none => s
  | some h => s.serveHeld q w h

/-! ## The end of a fill -/

/-- The transactions of a slot in the order they are served: the requester, then the waiters (R59, R64, R65). -/
def Fill.served (f : Fill) : List Request := f.requester.toList ++ f.waiters

/-- The state with a fill slot replaced. -/
def State.setSlot (s : State) (i : SlotId) (f : Option Fill) : State := { s with slots := setAt s.slots i f }

/-- The line a fill installs (R59, step 1). -/
def Fill.installed (f : Fill) : Held :=
  { tag := tagOf f.line, region := f.region, sharers := PortSet.empty, data := arrange f.critical f.received }

/-- Serving the transactions of a completed fill, one after the other (R59, steps 2 and 3). -/
def State.serveAll (s : State) (w : WayIdx) (qs : List Request) : State := qs.foldl (fun s q => s.serve q w) s

/-- The answer a tainted completion gives (R64). -/
def Request.taintedAnswer (q : Request) (d : Line) : Response :=
  match q.txn.kind with
  | .read => .done (.word (maskLanes q.txn.lanes d[q.txn.word]))
  | .lineRead => .done (.line (wrapLine q.txn.word d) false)
  | .write => .retry .lineBusy
  | .lineWrite => .retry .lineBusy
  | .reserveRead => .retry .lineBusy
  | .releaseWrite => .late
  | .release => .late

/-- Answering the transactions of a slot in order. -/
def State.answerAll (s : State) (qs : List Request) (answer : Request → Response) : State :=
  qs.foldl (fun s q => s.respond q.port (answer q)) s

/-- Fill completion without taint (R59). -/
def State.installFill (s : State) (i : SlotId) (f : Fill) : State :=
  ((s.setEntry (setOf f.line) f.way (.clean f.installed)).serveAll f.way f.served).setSlot i none

/-- Fill completion with taint (R64). -/
def State.taintedFill (s : State) (i : SlotId) (f : Fill) : State :=
  ((s.answerAll f.served fun q => q.taintedAnswer (arrange f.critical f.received)).invalidate (setOf f.line)
    f.way).setSlot i none

/-- Fill completion (R58, R59, R64). -/
def State.completeFill (s : State) (i : SlotId) : State :=
  match s.slots[i] with
  | none => s
  | some f => if f.tainted then s.taintedFill i f else s.installFill i f

/-- Fill failure with a cause (R65). -/
def State.failFill (s : State) (i : SlotId) (c : FaultCause) : State :=
  match s.slots[i] with
  | none => s
  | some f => ((s.answerAll f.served fun _ => .fault c).invalidate (setOf f.line) f.way).setSlot i none

/-! ## The end of a port operation -/

/-- The response to an operation's owner, if it still has one (R146, R147, R148). -/
def State.answerOwner (s : State) (op : Operation) (r : Response) : State :=
  match op.owner with
  | none => s
  | some k => s.respond k r

/-- The WRITE_LOST record of a failed port operation, made when its write-through field is set (R147). -/
def State.recordLost (s : State) (op : Operation) (how : LostHow) : State :=
  match op.kind with
  | .portWrite k true => s.record (.writeLost how k op.region op.line)
  | .portWrite _ false => s
  | .portRead _ => s
  | .fill _ => s
  | .drain _ => s
  | .probe => s

/-- A port operation that fails answers its owner and records a lost write (R147). -/
def State.failPortOp (s : State) (op : Operation) (c : FaultCause) (how : LostHow) : State :=
  (s.answerOwner op (.fault c)).recordLost op how

/-- What a completed port read returns: the one word with its lanes, or the line in the order it was moved with NO-KEEP
(R146). -/
def Operation.readData (op : Operation) (kept : List Word) : DoneData :=
  match op.extent with
  | .line _ => .line (lineOfWords kept) false
  | .word _ _ => .word (kept.headD 0)

/-! ## A region going OFFLINE and returning -/

/-- A removed operation of a region that goes OFFLINE is handed on (R144). -/
def State.handOn (s : State) (op : Operation) : State :=
  match op.kind with
  | .fill i => s.failFill i .offline
  | .drain p => s.holdDrain p
  | .portRead k => (s.failPortOp op .offline .offline).releasePlace k
  | .portWrite k _ => (s.failPortOp op .offline .offline).releasePlace k
  | .probe => s

/-- A removed parked operation is handed on; the place keeps waiting for the operation on the queue (R149). -/
def State.handOnParked (s : State) (op : Operation) : State := s.failPortOp op .offline .offline

/-- The removed operations are handed on: those of the queue in queue order, then the parked ones by port number (R153,
step 3, for a ready timeout). For FORCE_OFFLINE the spec gives no order, which shows in the WRITE_LOST records and in the
recency order of two failed fills' ways in one set, and for neither does it order parked operations of other regions
that join the tail together (R149); the same order is taken (DESIGN CHOICE, notes/assumptions/18.md). -/
def State.handOnAll (s : State) (queued parked : List Operation) : State :=
  parked.foldl State.handOnParked (queued.foldl State.handOn s)

/-- Region `r` becomes OFFLINE (R153, R163). -/
def State.markOffline (s : State) (r : RegionId) : State := s.setRegion r { s.regions[r] with health := .offline }

/-- Region `r`'s probe timer starts with the probe interval (R157). -/
def State.startProbeTimer (s : State) (r : RegionId) : State :=
  s.setRegion r { s.regions[r] with probeTimer := some s.regions[r].cfg.probeTime }

/-- Every queued and parked operation of region `r` is taken off the Device Port. -/
def State.stripRegion (s : State) (r : RegionId) : State := { s with dev := s.dev.strip r }

/-- Region `r` goes OFFLINE: `first` is what ends the operation whose timeout caused it, the removed work is handed on,
the record is placed after the losses, and the probe timer starts (R144, R153, R163). The operations are taken off the
queue before `first`, so that no parked operation of the region joins it (R149). -/
def State.goOffline (s : State) (r : RegionId) (first : State → State) (e : Event) : State :=
  ((((((first (s.stripRegion r)).markOffline r).handOnAll (s.dev.queue.filter (Operation.ofRegion r))
    (s.dev.parkedOf r)).record e).startProbeTimer r).kick)

/-- The HELD drain entries of region `r`, oldest first. -/
def State.heldDrains (s : State) (r : RegionId) : List DrainEntry := s.drains.filter fun e => e.held && e.region == r

/-- The HELD drain entries of region `r` become QUEUED, and their writes join the queue, oldest first (R75). -/
def State.requeueDrains (s : State) (r : RegionId) : State :=
  (s.heldDrains r).foldl (fun s e => s.enqueue e.op)
    { s with drains := s.drains.map fun e => if e.region = r then { e with held := false } else e }

/-- Region `r` becomes ONLINE with count 0 and its probe timer STOPPED (R133). -/
def State.markOnline (s : State) (r : RegionId) : State :=
  s.setRegion r { s.regions[r] with health := .online, count := 0, probeTimer := none }

/-- Region `r` returns to ONLINE with a record (R159, R162). -/
def State.comeOnline (s : State) (r : RegionId) (e : Event) : State :=
  (((s.markOnline r).requeueDrains r).record e).kick

/-! ## Detach and port reset -/

/-- Port `k` with its mode replaced. -/
def State.setMode (s : State) (k : Port) (m : Mode) : State := s.setPort k { s.ports[k] with mode := m }

/-- A mode after a detach: a COHERENT port is DETACHED (R107). -/
def Mode.detached : Mode → Mode
  | .plain => .plain
  | .coherent _ => .coherent false

/-- The effects of detach (R107). -/
def State.detach (s : State) (k : Port) : State :=
  ((s.dropSharer k).emptyNotices k).setMode k s.ports[k].mode.detached

/-- The slots after port `k`'s requester is abandoned: the requester place is vacant (R56). -/
def Fill.abandonRequester (f : Fill) : Fill := { f with requester := none }

/-- A fill after port `k`'s waiter is abandoned: the waiters behind it close up (R57). -/
def Fill.abandonWaiter (f : Fill) (k : Port) : Fill := { f with waiters := f.waiters.filter fun q => q.port != k }

/-- An operation with no owner, if it is port `k`'s (R148). -/
def Operation.disown (k : Port) (op : Operation) : Operation :=
  match op.kind with
  | .portRead j => if j = k then { op with owner := none } else op
  | .portWrite j _ => if j = k then { op with owner := none } else op
  | .fill _ => op
  | .drain _ => op
  | .probe => op

/-- The Device Port after port `k`'s transaction placed PORT_OP is abandoned: its queued operation has no owner and the
place is ORPHANED, or its parked operation is discarded (R148, R149). -/
def DevicePort.abandon (d : DevicePort) (k : Port) : DevicePort :=
  match d.places[k] with
  | .free => d
  | .active => { d with queue := d.queue.map (Operation.disown k), places := setAt d.places k (.orphaned none) }
  | .orphaned _ => { d with places := setAt d.places k (.orphaned none) }

/-- The WRITE_LOST record of a discarded parked write (R149). -/
def State.recordAbandoned (s : State) (k : Port) : State :=
  match s.dev.places[k].parked with
  | none => s
  | some op => s.recordLost op .abandoned

/-- Port reset abandons port `k`'s transaction in flight, wherever it is placed (R22, R56, R57, R148, R149). -/
def State.abandonFlight (s : State) (k : Port) : State :=
  match s.ports[k].flight with
  | none => s
  | some (.atPort _) => s
  | some (.requester i) => { s with slots := setAt s.slots i (s.slots[i].map Fill.abandonRequester) }
  | some (.waiter i) => { s with slots := setAt s.slots i (s.slots[i].map fun f => f.abandonWaiter k) }
  | some .portOp => { s.recordAbandoned k with dev := s.dev.abandon k }

/-- Port `k` after port reset: IDLE, retry count 0, its line asserted, its configuration kept (R22). -/
def MasterPort.wasReset (p : MasterPort) : MasterPort := { p with flight := none, retry := 0, resetLine := true }

/-- Port reset of port `k` at every block (R22, R50, R94, R113, R148, R191). -/
def State.portReset (s : State) (k : Port) : State :=
  ((((({ s.abandonFlight k with latches := setAt s.latches k 0 } : State).freeOwned k).emptyNotices k).dropSharer
    k).setPort k s.ports[k].wasReset)

/-! ## The time base (R197) -/

/-- A reservation with `d` µs less to run. -/
def Reservation.age (d : Nat) (r : Reservation) : Reservation := { r with remaining := r.remaining - d }

/-- A notice queue with `d` µs less on its timer. -/
def NoticeQueue.age (d : Nat) (q : NoticeQueue) : NoticeQueue := { q with timer := q.timer.map fun t => t - d }

/-- A region with `d` µs less on its probe timer. -/
def Region.age (d : Nat) (g : Region) : Region := { g with probeTimer := g.probeTimer.map fun t => t - d }

/-- A Device Port state with `d` µs less on the ready timer. -/
def DevPhase.age (d : Nat) : DevPhase → DevPhase
  | .idle => .idle
  | .busy now timer rest gathered kept => .busy now (timer - d) rest gathered kept
  | .clearing orphan timer => .clearing orphan (timer - d)

/-- The time left on the ready timer, none while no transfer is presented (R139). -/
def DevPhase.left : DevPhase → Option Nat
  | .idle => none
  | .busy _ timer _ _ _ => some timer
  | .clearing _ timer => some timer

/-- The time left on a notice timer that runs for a head, none otherwise (R104). -/
def NoticeQueue.left (q : NoticeQueue) : Option Nat := if q.queue.isEmpty then none else q.timer

/-- The time left on the reservation of an entry, none while it is FREE (R77). -/
def State.resLeft (s : State) (e : ResId) : Option Nat := s.res[e].map (·.remaining)

/-- The times left on all running timers. -/
def State.timesLeft (s : State) : List Nat :=
  s.dev.phase.left.toList ++ (allPorts.filterMap fun k => s.notices[k].left) ++ allRes.filterMap s.resLeft ++
    allRegions.filterMap fun r => s.regions[r].probeTimer

/-- A timer can run out: it runs, and no other has less time left, so that every timer runs out when its own duration has
elapsed and not later (R197). -/
def State.runsOut (s : State) (left : Option Nat) : Bool :=
  match left with
  | none => false
  | some n => s.timesLeft.all fun m => n ≤ m

/-- A running out that is due, its time having elapsed: the ready timer, then notice timers, reservations and probe timers
by number. The order among those of one moment is open (DESIGN CHOICE, notes/assumptions/3.md). -/
def State.dueCommand (s : State) : Option Instr :=
  if s.dev.phase.left = some 0 then some .readyTimeout
  else
    ((allPorts.find? fun k => s.notices[k].left == some 0).map Instr.noticeTimeout).or
      (((allRes.find? fun e => s.resLeft e == some 0).map Instr.expiry).or
        ((allRegions.find? fun r => s.regions[r].probeTimer == some 0).map Instr.probeTimerRunOut))

/-- `d` µs of the time base elapse: every running timer counts down (R85, R104, R139, R157, R197). A timer at 0 is due; no
time elapses past it (notes/assumptions/3.md). -/
def State.elapse (s : State) (d : Nat) : State :=
  { s with
    res := mapAll s.res fun r => r.map (Reservation.age d)
    notices := mapAll s.notices (NoticeQueue.age d)
    regions := mapAll s.regions (Region.age d)
    dev := { s.dev with phase := s.dev.phase.age d } }

/-- One microsecond of the time base. The time base stops while the power-on reset pin is asserted (R195, R197). -/
def State.tick (s : State) : State := if s.porPin then s else s.elapse 1

end Sys2Proof.Machine
end

