-- ==== Sys2Proof/Machine/Control.lean ====
section
/-! DEFINITION. What each access to the control window does and answers (10_control_window_and_events.md): the effect of
every written register and command, the effect of a READ, and the checks of R179. The meanings of the rows that are
writes to the window (RUN, SOFT_RESET, PORT_CFG and the rest) are over these in Machine/Commands.lean. -/

namespace Sys2Proof.Machine

/-- An access answered DONE without data. -/
def State.ok (s : State) (k : Port) : State := s.respond k (.done .nothing)

/-- An access answered FAULT CONTROL. -/
def State.refuse (s : State) (k : Port) : State := s.respond k (.fault .control)

/-! ## HUB_STATE (R181, R182) -/

/-- RUN: the hub becomes RUN (R181). -/
def State.enterRun (s : State) (k : Port) : State := ({ s with hub := .run } : State).ok k

/-- A port after soft reset: IDLE, count 0, COHERENT ports ATTACHED, the rest of its configuration kept (R24). -/
def MasterPort.softReset (p : MasterPort) : MasterPort :=
  { p with
    flight := none
    retry := 0
    mode := match p.mode with
      | .plain => .plain
      | .coherent _ => .coherent true }

/-- A region after soft reset: ONLINE with count 0 and its timer STOPPED if it was enabled, configuration kept
(R150). -/
def Region.softReset (g : Region) : Region :=
  match g.health with
  | .disabled => g
  | .online => { g with health := .online, count := 0, probeTimer := none }
  | .offline => { g with health := .online, count := 0, probeTimer := none }

/-- The Device Port after soft reset: the queue empty, every place FREE, and a presented transfer an orphan (R150). -/
def DevicePort.softReset (d : DevicePort) : DevicePort :=
  { queue := [], places := Vector.replicate 4 .free,
    phase := match d.phase with
      | .idle => .idle
      | .busy now timer _ _ _ => .clearing now timer
      | .clearing orphan timer => .clearing orphan timer }

/-- The responses of a soft reset: FAULT RESET to every transaction in flight but the one that carried it, which is
answered DONE (R24). The order among them is not given; the others come first, by port number (DESIGN CHOICE,
notes/assumptions/7.md). -/
def softResetResponses (ports : Vector MasterPort 4) (k : Port) : List (Port × Response) :=
  ((allPorts.filter fun j => j != k && ports[j].flight.isSome).map fun j => (j, Response.fault .reset)) ++
    [(k, Response.done .nothing)]

/-- Soft reset, performed in the happening that takes port `k`'s write of RESET (R182). -/
def State.softReset (s : State) (k : Port) : State :=
  { s with
    hub := .config
    ports := mapAll s.ports MasterPort.softReset
    lastGranted := 3
    dir := Vector.replicate 128 DirSet.init
    slots := Vector.replicate 4 none
    drains := []
    res := Vector.replicate 6 none
    notices := Vector.replicate 4 NoticeQueue.empty
    fifo := ForeignFifo.empty
    regions := mapAll s.regions Region.softReset
    dev := s.dev.softReset
    sweep := Sweep.init
    snapshot := Snapshot.zero
    events := { records := [.hubReset k], overflow := false }
    latches := Vector.replicate 4 0
    out := { s.out with responses := s.out.responses ++ softResetResponses s.ports k } }

/-- A write to HUB_STATE by its command (R181). -/
def State.writeHubState (s : State) (k : Port) (v : Word) : State :=
  if hubCmd v = 1 then s.enterRun k
  else if hubCmd v = 2 then s.softReset k
  else s.refuse k

/-! ## PORT_CFG and PORT_CMD (R109, R110, R111, R184) -/

/-- The mode of port `j` is written COHERENT or PLAIN (R111). -/
def State.writeMode (s : State) (j : Port) (coherent : Bool) : State :=
  match coherent, s.ports[j].mode with
  | true, .plain => s.setMode j (.coherent true)
  | true, .coherent _ => s
  | false, .plain => s
  | false, .coherent true => (s.detach j).setMode j .plain
  | false, .coherent false => s.setMode j .plain

/-- Whether a port other than `j` has control permission (R184). -/
def State.othersPermitted (s : State) (j : Port) : Bool := allPorts.any fun i => i != j && s.ports[i].permission

/-- Port `j`'s control permission and event enable are written (R184). -/
def State.writePermission (s : State) (j : Port) (permission eventEnable : Bool) : State :=
  s.setPort j { s.ports[j] with permission := permission, eventEnable := eventEnable }

/-- A write to PORT_CFG of port `j` (R184). -/
def State.writePortCfg (s : State) (j : Port) (k : Port) (v : Word) : State :=
  if !v.getLsbD 1 && !s.othersPermitted j then s.refuse k
  else (((s.writeMode j (v.getLsbD 0)).writePermission j (v.getLsbD 1) (v.getLsbD 2)).ok k)

/-- ATTACH of the port a write names (R110). -/
def State.attachPort (s : State) (k : Port) (v : Word) : State :=
  match s.ports[portCmdPort v].mode with
  | .plain => s.refuse k
  | .coherent true => s.ok k
  | .coherent false => (s.setMode (portCmdPort v) (.coherent true)).ok k

/-- DETACH of the port a write names (R109). -/
def State.detachPort (s : State) (k : Port) (v : Word) : State :=
  match s.ports[portCmdPort v].mode with
  | .plain => s.refuse k
  | .coherent true => (s.detach (portCmdPort v)).ok k
  | .coherent false => s.ok k

/-- A write to PORT_CMD by its command (R184). -/
def State.writePortCmd (s : State) (k : Port) (v : Word) : State :=
  if portCmdCode v = 1 then s.attachPort k v
  else if portCmdCode v = 2 then s.detachPort k v
  else s.refuse k

/-! ## RES_TIME, NOTICE_TIME and URGENCY (R185) -/

/-- A write to RES_TIME, in range from 1 to 255 (R80, R185). -/
def State.writeResTime (s : State) (k : Port) (v : Word) : State :=
  if 1 ≤ v.toNat ∧ v.toNat ≤ 255 then ({ s with resTime := v.setWidth 8 } : State).ok k else s.refuse k

/-- A write to NOTICE_TIME, in range from 1 to 255 (R105, R185). -/
def State.writeNoticeTime (s : State) (k : Port) (v : Word) : State :=
  if 1 ≤ v.toNat ∧ v.toNat ≤ 255 then ({ s with noticeTime := v.setWidth 8 } : State).ok k else s.refuse k

/-- A write to URGENCY, in range from 1 to 15 (R14, R185). -/
def State.writeUrgency (s : State) (k : Port) (v : Word) : State :=
  if 1 ≤ v.toNat ∧ v.toNat ≤ 15 then ({ s with urgency := v.setWidth 4 } : State).ok k else s.refuse k

/-! ## REGION groups and REGION_CMD (R130 to R132, R161 to R163, R186) -/

/-- A write to word `w` of region `n`'s REGION group (R130, R186). -/
def State.writeRegion (s : State) (n : RegionId) (w : Fin 4) (k : Port) (v : Word) : State :=
  if s.regions[n].enabled then s.refuse k
  else
    match s.regions[n].cfg.write w v with
    | none => s.refuse k
    | some c => (s.setRegion n { s.regions[n] with cfg := c }).ok k

/-- Two ranges share an address (R131): neither is empty, and neither ends before the other begins. -/
def RegionConfig.overlaps (a b : RegionConfig) : Bool :=
  a.base ≤ a.limit && b.base ≤ b.limit && a.base ≤ b.limit && b.base ≤ a.limit

/-- The checks an ENABLE of region `r` fails (R131, second to fifth rows). -/
def State.enableRefused (s : State) (r : RegionId) : Bool :=
  s.regions[r].cfg.limit < s.regions[r].cfg.base ||
  s.regions[r].cfg.size ≤ s.regions[r].cfg.probeOffset.toNat ||
  s.regions[r].cfg.covers 0xFFFFF ||
  allRegions.any fun n => n != r && s.regions[n].enabled && s.regions[r].cfg.overlaps s.regions[n].cfg

/-- ENABLE of the region a write names (R131). -/
def State.enableRegion (s : State) (k : Port) (v : Word) : State :=
  if s.regions[regionCmdRegion v].enabled then s.ok k
  else if s.enableRefused (regionCmdRegion v) then s.refuse k
  else
    (s.setRegion (regionCmdRegion v)
      { s.regions[regionCmdRegion v] with health := .online, count := 0, probeTimer := none }).ok k

/-- Whether a set has a way of region `r`. -/
def DirSet.hasRegion (d : DirSet) (r : RegionId) : Bool := allWays.any fun w => d.ways[w].region? == some r

/-- Whether the orphan transfer at the Device Port is of region `r` (R132, R136). -/
def DevPhase.orphanOf (r : RegionId) : DevPhase → Bool
  | .idle => false
  | .busy _ _ _ _ _ => false
  | .clearing orphan _ => orphan.region == r

/-- Whether a HELD reservation's line lies in a region's range (R132). -/
def reservesIn (c : RegionConfig) : Option Reservation → Bool
  | none => false
  | some x => c.covers (tagOf x.line)

/-- Whether anything in the hub still belongs to region `r` (R132). -/
def State.belongs (s : State) (r : RegionId) : Bool :=
  (s.dir.toList.any fun d => d.hasRegion r) ||
  (s.drains.any fun e => e.region == r) ||
  s.dev.queue.any (Operation.ofRegion r) ||
  !(s.dev.parkedOf r).isEmpty ||
  s.dev.phase.orphanOf r ||
  allRes.any fun i => reservesIn s.regions[r].cfg s.res[i]

/-- DISABLE of the region a write names (R132). -/
def State.disableRegion (s : State) (k : Port) (v : Word) : State :=
  if !s.regions[regionCmdRegion v].enabled then s.ok k
  else if s.belongs (regionCmdRegion v) then s.refuse k
  else
    (s.setRegion (regionCmdRegion v)
      { s.regions[regionCmdRegion v] with health := .disabled, count := 0, probeTimer := none }).ok k

/-- A region's probe timer stops and its PROBE joins the queue (R157, R161). -/
def State.queueProbe (s : State) (r : RegionId) : State :=
  (s.setRegion r { s.regions[r] with probeTimer := none }).enqueue (probeOp r s.regions[r].cfg)

/-- FORCE_PROBE of the region a write names (R161). -/
def State.forceProbe (s : State) (k : Port) (v : Word) : State :=
  match s.regions[regionCmdRegion v].health with
  | .disabled => s.refuse k
  | .online => s.ok k
  | .offline =>
    match s.regions[regionCmdRegion v].probeTimer with
    | none => s.ok k
    | some _ => (s.queueProbe (regionCmdRegion v)).ok k

/-- Whether an operation is the probe of region `r`. -/
def Operation.isProbeOf (r : RegionId) (op : Operation) : Bool := op.kind == .probe && op.region == r

/-- Region `r`'s probe leaves the queue, stopped if its transfer is presented (R162, step 1). -/
def State.dropProbe (s : State) (r : RegionId) : State := { s with dev := s.dev.remove (Operation.isProbeOf r) }

/-- FORCE_ONLINE of the region a write names (R162). -/
def State.forceOnline (s : State) (k : Port) (v : Word) : State :=
  match s.regions[regionCmdRegion v].health with
  | .disabled => s.refuse k
  | .online => s.ok k
  | .offline =>
    ((s.dropProbe (regionCmdRegion v)).comeOnline (regionCmdRegion v)
      (.regionOnlineForced (regionCmdRegion v) k)).ok k

/-- FORCE_OFFLINE of the region a write names (R163). The responses to the removed work come before the write's own
(DESIGN CHOICE, notes/assumptions/7.md). -/
def State.forceOffline (s : State) (k : Port) (v : Word) : State :=
  match s.regions[regionCmdRegion v].health with
  | .disabled => s.refuse k
  | .offline => s.ok k
  | .online =>
    (s.goOffline (regionCmdRegion v) id (.regionOfflineForced (regionCmdRegion v) k)).ok k

/-- A write to REGION_CMD by its command (R186). -/
def State.writeRegionCmd (s : State) (k : Port) (v : Word) : State :=
  if regionCmdCode v = 1 then s.enableRegion k v
  else if regionCmdCode v = 2 then s.disableRegion k v
  else if regionCmdCode v = 3 then s.forceProbe k v
  else if regionCmdCode v = 4 then s.forceOnline k v
  else if regionCmdCode v = 5 then s.forceOffline k v
  else s.refuse k

/-! ## SWEEP_CMD (R167, R176, R187) -/

/-- Whether a sweep is in progress (R166). -/
def SweepState.inProgress : SweepState → Bool
  | .idle => false
  | .running => true
  | .waitingDrain => true
  | .waitingNotice _ => true

/-- Whether a filter names a DISABLED region (R167). -/
def State.filterDisabled (s : State) (f : Option RegionId) : Bool :=
  match f with
  | none => false
  | some r => !s.regions[r].enabled

/-- The Sweep Engine as a sweep starts (R167). -/
def Sweep.started (c : SweepCommand) (f : Option RegionId) (k : Port) : Sweep :=
  { state := .running, command := some c, filter := f, issuer := k, set := 0, way := 0, writtenBack := 0,
    invalidated := 0, skipped := 0, aborted := false }

/-- A write to SWEEP_CMD that asks for a sweep (R167). -/
def State.startSweep (s : State) (c : SweepCommand) (k : Port) (v : Word) : State :=
  if s.sweep.state.inProgress then s.refuse k
  else if s.filterDisabled (sweepCmdFilter v) then s.refuse k
  else ({ s with sweep := Sweep.started c (sweepCmdFilter v) k } : State).ok k

/-- The end of a sweep: IDLE, with its SWEEP_DONE record (R175, R176). -/
def State.endSweep (s : State) (aborted : Bool) : State :=
  ({ s with sweep := { s.sweep with state := .idle, aborted := aborted } } : State).record
    (.sweepDone aborted s.sweep.issuer s.sweep.filter)

/-- ABORT (R176). -/
def State.abortSweep (s : State) (k : Port) : State :=
  if s.sweep.state.inProgress then (s.endSweep true).ok k else s.ok k

/-- A write to SWEEP_CMD by its command (R187). -/
def State.writeSweepCmd (s : State) (k : Port) (v : Word) : State :=
  if sweepCmdCode v = 1 then s.startSweep .clean k v
  else if sweepCmdCode v = 2 then s.startSweep .flush k v
  else if sweepCmdCode v = 3 then s.startSweep .discard k v
  else if sweepCmdCode v = 4 then s.abortSweep k
  else s.refuse k

/-! ## LINE_QUERY (R188) -/

/-- The state a snapshot records. -/
def Entry.lineState : Entry → LineState
  | .invalid => .invalid
  | .clean _ => .clean
  | .dirty _ => .dirty
  | .filling _ _ _ => .filling

/-- The fill slot of a way, when FILLING. -/
def Entry.slot? : Entry → Option SlotId
  | .invalid => none
  | .clean _ => none
  | .dirty _ => none
  | .filling _ _ i => some i

/-- The entry that holds a line, INVALID if none does. -/
def State.entryOf (s : State) (l : LineAddr) : Entry :=
  match s.lookup l with
  | none => .invalid
  | some w => s.entry (setOf l) w

/-- The region a snapshot records: the held way's, or the enabled region that contains the address (R188). -/
def State.regionOfLine (s : State) (l : LineAddr) : Option RegionId :=
  match (s.entryOf l).region? with
  | some r => some r
  | none => s.regionAt (lineWord l)

/-- The reservation that names a line. -/
def State.reservationOf (s : State) (l : LineAddr) : Option Reservation := (s.resOf l).bind fun i => s.res[i]

/-- The snapshot of a line (R188). The region, owner and word index of an absent region or reservation are free values
(DESIGN CHOICE, notes/assumptions/5.md). -/
def State.snapshotOf (s : State) (l : LineAddr) : Snapshot :=
  { state := (s.entryOf l).lineState
    way := (s.lookup l).getD 0
    sharers := (s.entryOf l).sharers
    regionPresent := (s.regionOfLine l).isSome
    region := (s.regionOfLine l).getD (Config.absentLineRegion s.fresh)
    reserved := (s.reservationOf l).isSome
    owner := ((s.reservationOf l).map (·.owner)).getD (Config.absentOwner s.fresh)
    word := ((s.reservationOf l).map (·.word)).getD (Config.absentWord s.fresh)
    drains := (s.drains.filter fun e => e.line == l).length
    slot := ((s.entryOf l).slot?).getD 0
    line := l }

/-- A write to LINE_QUERY (R188). -/
def State.queryLine (s : State) (k : Port) (v : Word) : State :=
  ({ s with snapshot := s.snapshotOf (lineOf v), fresh := s.fresh + 1 } : State).ok k

/-! ## The event queue (R191, R192) -/

/-- The queue with its head record removed; the overflow flag clears if that leaves it empty (R192). -/
def EventQueue.pop (q : EventQueue) : EventQueue :=
  match q.records with
  | [] => q
  | [_] => { records := [], overflow := false }
  | _ :: e :: es => { q with records := e :: es }

/-- A write to EVENT_POP (R192). -/
def State.popEvent (s : State) (k : Port) : State := ({ s with events := s.events.pop } : State).ok k

/-- What a READ of a register does beside its answer: EVENT_HEAD word 0 loads the reading port's latch (R180, R191).
The model's counter moves on where the word read back holds a free value. -/
def State.noteRead (s : State) (k : Port) : Reg → State
  | .eventHead0 => { s with latches := setAt s.latches k s.eventHead1, fresh := s.fresh + 1 }
  | .sweepStatus0 => { s with fresh := s.fresh + 1 }
  | .hubState => s
  | .portCfg _ => s
  | .portCmd => s
  | .resTime => s
  | .noticeTime => s
  | .urgency => s
  | .regionCmd => s
  | .sweepCmd => s
  | .sweepStatus1 => s
  | .lineQuery0 => s
  | .lineQuery1 => s
  | .eventHead1 => s
  | .eventPop => s
  | .eventStatus => s
  | .regionWord _ _ => s

/-! ## Accesses (R179, R180) -/

/-- A READ of a register that passes the checks (R180). -/
def State.readWindow (s : State) (k : Port) (g : Reg) : State :=
  (s.noteRead k g).respond k (.done (.word (s.readReg k g)))

/-- A WRITE of `v` to a register that may be written (R180). The read-only registers are refused before (R179). -/
def State.writeWindow (s : State) (k : Port) (g : Reg) (v : Word) : State :=
  match g with
  | .hubState => s.writeHubState k v
  | .portCfg j => s.writePortCfg j k v
  | .portCmd => s.writePortCmd k v
  | .resTime => s.writeResTime k v
  | .noticeTime => s.writeNoticeTime k v
  | .urgency => s.writeUrgency k v
  | .regionCmd => s.writeRegionCmd k v
  | .sweepCmd => s.writeSweepCmd k v
  | .sweepStatus0 => s.refuse k
  | .sweepStatus1 => s.refuse k
  | .lineQuery0 => s.queryLine k v
  | .lineQuery1 => s.refuse k
  | .eventHead0 => s.refuse k
  | .eventHead1 => s.refuse k
  | .eventPop => s.popEvent k
  | .eventStatus => s.refuse k
  | .regionWord n w => s.writeRegion n w k v

/-- The checks of R179 that stand before the register's own rule: kind and lanes, permission, offset, and a write to a
read-only register. -/
def State.accessRefusal (s : State) (k : Port) (t : Transaction) : Option FaultCause :=
  if !((t.kind == .read || t.kind == .write) && t.lanes == 0b1111) then some .control
  else if t.kind == .write && !s.ports[k].permission then some .denied
  else
    match regOf t with
    | none => some .control
    | some g => if t.kind == .write && g.access == .readOnly then some .control else none

/-- A control access of port `k`: the checks in the order of R179, then the register (R18, R179). `effect` is what the
access does once they have passed. -/
def State.checkedAccess (s : State) (k : Port) (t : Transaction) (effect : State → State) : State :=
  match s.accessRefusal k t with
  | some c => s.respond k (.fault c)
  | none => effect s

/-- Any transaction addressed to the control window (R18, R179, R180). -/
def State.controlAccess (s : State) (k : Port) (t : Transaction) : State :=
  s.checkedAccess k t fun s =>
    match regOf t with
    | none => s
    | some g => if t.kind == .write then s.writeWindow k g t.wdata else s.readWindow k g

end Sys2Proof.Machine
end

