-- ==== Sys2Proof/Machine/Intake.lean ====
section
/-! DEFINITION. How the Line Directory takes a granted transaction: the Intake Arbiter (R15), the intake checks (R17 to
R21), lookup (R27), joining a fill (R28, R55), the miss path (R41 to R43), victim choice (R44, R45) and allocation (R46
to R48). -/

namespace Sys2Proof.Machine

/-! ## The Intake Arbiter (R15, R16) -/

/-- The transaction placed AT_PORT at a port. -/
def MasterPort.waiting (p : MasterPort) : Option Transaction :=
  match p.flight with
  | some (.atPort t) => some t
  | some (.requester _) => none
  | some (.waiter _) => none
  | some .portOp => none
  | none => none

/-- The rotating order: the port after the last-granted one first, the last-granted one last (R15). -/
def rotation (last : Port) : List Port := [last + 1, last + 2, last + 3, last]

/-- The candidates: the ports with a transaction AT_PORT, cut down to the URGENT ones if any of them is URGENT (R15,
step 1). -/
def State.candidate (s : State) (k : Port) : Bool :=
  s.ports[k].waiting.isSome &&
    (s.urgent k || !(allPorts.any fun j => s.ports[j].waiting.isSome && s.urgent j))

/-- The port granted: the first candidate in rotating order (R15, step 2). -/
def State.grantedPort (s : State) : Option Port := (rotation s.lastGranted).find? s.candidate

/-- The granted port with its transaction. -/
def State.granted (s : State) : Option (Port × Transaction) :=
  s.grantedPort.bind fun k => s.ports[k].waiting.map fun t => (k, t)

/-- Whether the granted transaction is one that a command names. -/
def State.grantNamed (s : State) (named : Transaction → Bool) : Bool :=
  match s.granted with
  | none => false
  | some (_, t) => named t

/-- The directory takes the granted transaction: its port becomes the last-granted port (R15, step 3), and `f` is what
the directory does with it. -/
def State.takeGranted (s : State) (f : State → Port → Transaction → State) : State :=
  match s.granted with
  | none => s
  | some (k, t) => f { s with lastGranted := k } k t

/-- A port request taken at the directory, if the granted transaction is one that the command names. A command that
names another transaction than the granted one is a happening that does not come about (DESIGN CHOICE,
notes/assumptions/2.md). -/
def takeRequest (s : State) (named : Transaction → Bool) (f : State → Port → Transaction → State) :
    Host.Outcome State Fault Refusal :=
  happen s (s.grantNamed named) fun s => s.takeGranted f

/-! ## Victim choice and allocation (R44 to R48) -/

/-- Whether a way may be a victim when no way is INVALID (R44, step 2). -/
def State.mayBeVictim (s : State) (si : SetIdx) (w : WayIdx) : Bool :=
  match s.entry si w with
  | .invalid => false
  | .filling _ _ _ => false
  | .clean h => (s.resOf (lineAt h.tag si)).isNone
  | .dirty h => (s.resOf (lineAt h.tag si)).isNone && !s.isOffline h.region

/-- The victim of a set, read from the back of its recency list: the first INVALID way, else the first way that may be
a victim (R44). -/
def State.victim (s : State) (si : SetIdx) : Option WayIdx :=
  match s.dir[si].recency.reverse.find? fun w => s.entry si w == .invalid with
  | some w => some w
  | none => s.dir[si].recency.reverse.find? fun w => s.mayBeVictim si w

/-- The answer of the checks on a chosen victim, in their order (R45). -/
def State.victimRefusal (s : State) (si : SetIdx) (w : WayIdx) : Option RetryCause :=
  match (s.entry si w).held? with
  | none => none
  | some h =>
    if (s.entry si w).isDirty && !s.drainRoom then some .drainFull
    else if (s.lacking h.sharers (lineAt h.tag si)).any then some .noticeFull
    else none

/-- What an allocation does to the victim's old line: an EVICT entry if it is DIRTY, and a REVOKE to every sharer
(R46, steps 1 and 2). -/
def State.evict (s : State) (si : SetIdx) (w : WayIdx) : State :=
  match s.entry si w with
  | .invalid => s
  | .filling _ _ _ => s
  | .clean h => s.sendNotices .revoke (lineAt h.tag si) h.sharers
  | .dirty h => (s.addDrain .evict (lineAt h.tag si) h).sendNotices .revoke (lineAt h.tag si) h.sharers

/-- The victim way takes its new entry and moves to the front of the recency list; a sweep that waits at it goes on
(R46, steps 3 to 5, R174). -/
def State.allocate (s : State) (si : SetIdx) (w : WayIdx) (e : Entry) : State :=
  { (((s.evict si w).setEntry si w e).touch si w) with sweep := s.sweep.wayChanged si w }

/-- The lowest-numbered FREE fill slot (R48). -/
def State.freeSlot (s : State) : Option SlotId := allSlots.find? fun i => s.slots[i].isNone

/-- The contents of a fill slot as it is allocated (R48, R53). -/
def Request.fill (q : Request) (w : WayIdx) : Fill :=
  { line := q.txn.line, way := w, region := q.region, allocPort := q.port, requester := some q,
    critical := q.txn.word, waiters := [], tainted := false, received := [] }

/-- Allocation for a LINE_WRITE: the line is installed DIRTY and the answer is DONE (R47, R68). -/
def State.installWrite (s : State) (q : Request) (w : WayIdx) : State :=
  (s.allocate (setOf q.txn.line) w
    (.dirty { tag := tagOf q.txn.line, region := q.region, sharers := PortSet.empty, data := q.txn.ldata })).respond
      q.port (.done .nothing)

/-- Allocation of a fill: the way FILLING, the slot BUSY, its read on the queue, the placement REQUESTER (R48, R54). -/
def State.startFill (s : State) (q : Request) (w : WayIdx) (i : SlotId) : State :=
  ((((s.allocate (setOf q.txn.line) w (.filling (tagOf q.txn.line) q.region i)).setSlot i (some (q.fill w))).enqueue
    (fillOp i q.region q.txn.line q.txn.word)).place q.port (.requester i))

/-- Steps 12 and 13: a victim is chosen and checked, and `alloc` allocates it (R44 to R46). -/
def State.chooseVictim (s : State) (q : Request) (alloc : WayIdx → State) : State :=
  match s.victim (setOf q.txn.line) with
  | none => s.respond q.port (.retry .setBusy)
  | some w =>
    match s.victimRefusal (setOf q.txn.line) w with
    | some c => s.respond q.port (.retry c)
    | none => alloc w

/-! ## The miss path (R41 to R43) -/

/-- A miss that does not allocate: in a non-cacheable region, with NO_ALLOCATE, or a WRITE or LINE_WRITE in a
write-through region (R42). -/
def State.missBypasses (s : State) (q : Request) : Bool :=
  !s.regions[q.region].cfg.cacheable || q.txn.bypasses ||
    ((q.txn.kind == .write || q.txn.kind == .lineWrite) && s.isWriteThrough q.region)

/-- The answer of step 10 to a RESERVE_READ: its port's limit, then the table's (R43, R79). -/
def State.limitRefusal (s : State) (q : Request) : Option Response :=
  if q.txn.kind == .reserveRead then
    if 2 ≤ s.owned q.port then some (.fault .resLimit)
    else if s.freeRes.isNone then some (.retry .resFull)
    else none
  else none

/-- Steps 11 to 13 (R43 to R48). -/
def State.missAllocate (s : State) (q : Request) : State :=
  if q.txn.kind == .lineWrite then s.chooseVictim q fun w => s.installWrite q w
  else
    match s.freeSlot with
    | none => s.respond q.port (.retry .fillFull)
    | some i => s.chooseVictim q fun w => s.startFill q w i

/-- Steps 7 to 13 for a transaction that misses and is no release (R41 to R43). -/
def State.missPath (s : State) (q : Request) : State :=
  if s.draining q.txn.line then s.respond q.port (.retry .lineBusy)
  else if s.isOffline q.region then s.respond q.port (.fault .offline)
  else if s.missBypasses q then s.makePortOp q false
  else
    match s.limitRefusal q with
    | some r => s.respond q.port r
    | none => s.missAllocate q

/-- A miss by kind: the releases are answered LATE at step 6 (R29). -/
def State.miss (s : State) (q : Request) : State :=
  match q.txn.kind with
  | .releaseWrite => s.respond q.port .late
  | .release => s.respond q.port .late
  | .read => s.missPath q
  | .write => s.missPath q
  | .lineRead => s.missPath q
  | .lineWrite => s.missPath q
  | .reserveRead => s.missPath q

/-! ## Lookup (R27, R28, R55) -/

/-- A fill that a transaction joins: at the vacant requester place for the allocating port, else at the tail of the
waiter list (R55). -/
def Fill.join (f : Fill) (q : Request) : Fill :=
  if f.allocPort = q.port ∧ f.requester = none then { f with requester := some q }
  else { f with waiters := f.waiters ++ [q] }

/-- The placement a transaction takes as it joins a fill (R55). -/
def Fill.joinPlacement (f : Fill) (q : Request) (i : SlotId) : Placement :=
  if f.allocPort = q.port ∧ f.requester = none then .requester i else .waiter i

/-- A transaction joins the fill of slot `i` (R28, R55). -/
def State.joinFill (s : State) (q : Request) (i : SlotId) : State :=
  match s.slots[i] with
  | none => s
  | some f => (s.setSlot i (some (f.join q))).place q.port (f.joinPlacement q i)

/-- Step 6: the lookup decides between hit service, joining a fill, and the miss path (R27). -/
def State.directory (s : State) (q : Request) : State :=
  match s.lookup q.txn.line with
  | none => s.miss q
  | some w =>
    match s.entry (setOf q.txn.line) w with
    | .filling _ _ i => s.joinFill q i
    | .invalid => s
    | .clean _ => s.serve q w
    | .dirty _ => s.serve q w

/-- The intake checks on a granted transaction, in the order of their table (R17 to R21). -/
def State.intake (s : State) (k : Port) (t : Transaction) : State :=
  if s.hub = .config ∧ !inWindow t.addr then s.respond k (.fault .notReady)
  else if inWindow t.addr then s.controlAccess k t
  else if t.kind.usesLanes && !legalShape t.lanes then s.respond k (.fault .shape)
  else
    match s.regionAt t.addr with
    | none => s.respond k (.fault .unmapped)
    | some r =>
      if t.kind.isReservation && !s.regions[r].cfg.cacheable then s.respond k (.fault .attr)
      else s.directory { port := k, txn := t, region := r }

end Sys2Proof.Machine
end

