-- ==== Sys2Proof/Machine/Commands.lean ====
section
/-! DEFINITION. The rows that are accesses to the control window: RUN, SOFT_RESET, PORT_CFG, ATTACH, DETACH,
CONTROL_WINDOW_WRITE, REGION, ENABLE, DISABLE, FORCE_PROBE, FORCE_ONLINE, FORCE_OFFLINE, CLEAN, FLUSH, DISCARD, ABORT,
LINE_QUERY, EVENT_HEAD and EVENT_POP. Each takes a granted access to its register with its command, makes the checks
of R179, and has its own effect. -/

namespace Sys2Proof.Machine

/-- A WRITE addressed to a register of the window whose written word meets a condition. -/
def writesReg (named : Reg → Bool) (value : Word → Bool) (t : Transaction) : Bool :=
  t.kind == .write && inWindow t.addr && (regOf t).any named && value t.wdata

/-- A granted WRITE to the window, with the checks of R179 and the effect of the row (R18). -/
def takeWrite (s : State) (named : Reg → Bool) (value : Word → Bool) (effect : State → Port → Word → State) :
    Host.Outcome State Fault Refusal :=
  takeRequest s (writesReg named value) fun s k t => s.checkedAccess k t fun s => effect s k t.wdata

/-- RUN: a write of RUN to HUB_STATE (R181). -/
def execRun (s : State) : Host.Outcome State Fault Refusal :=
  takeWrite s (· == .hubState) (fun v => hubCmd v == 1) fun s k _ => s.enterRun k

/-- SOFT_RESET: a write of RESET to HUB_STATE (R182). -/
def execSoftReset (s : State) : Host.Outcome State Fault Refusal :=
  takeWrite s (· == .hubState) (fun v => hubCmd v == 2) fun s k _ => s.softReset k

/-- The port whose PORT_CFG a register is. -/
def Reg.cfgPort? : Reg → Option Port
  | .portCfg j => some j
  | _ => none

/-- PORT_CFG: a write to a port's PORT_CFG (R184). -/
def execPortCfg (s : State) : Host.Outcome State Fault Refusal :=
  takeRequest s (writesReg (fun g => g.cfgPort?.isSome) fun _ => true) fun s k t =>
    s.checkedAccess k t fun s =>
      match (regOf t).bind Reg.cfgPort? with
      | none => s
      | some j => s.writePortCfg j k t.wdata

/-- ATTACH: a write of ATTACH to PORT_CMD (R110). -/
def execAttach (s : State) : Host.Outcome State Fault Refusal :=
  takeWrite s (· == .portCmd) (fun v => portCmdCode v == 1) State.attachPort

/-- DETACH: a write of DETACH to PORT_CMD (R109). -/
def execDetach (s : State) : Host.Outcome State Fault Refusal :=
  takeWrite s (· == .portCmd) (fun v => portCmdCode v == 2) State.detachPort

/-- RES_TIME, NOTICE_TIME and URGENCY. -/
def Reg.isParameter : Reg → Bool
  | .resTime => true
  | .noticeTime => true
  | .urgency => true
  | _ => false

/-- A command register with a code that no command has (R181, R184, R186, R187). -/
def Reg.badCode (g : Reg) (v : Word) : Bool :=
  match g with
  | .hubState => hubCmd v == 0 || hubCmd v == 3
  | .portCmd => portCmdCode v == 0 || portCmdCode v == 3
  | .regionCmd => regionCmdCode v == 0 || regionCmdCode v == 6 || regionCmdCode v == 7
  | .sweepCmd => sweepCmdCode v == 0 || sweepCmdCode v == 5 || sweepCmdCode v == 6 || sweepCmdCode v == 7
  | _ => false

/-- The writes that CONTROL_WINDOW_WRITE names: to a parameter, or to a command register with a code that no other row
names. -/
def isParameterWrite (t : Transaction) : Bool :=
  t.kind == .write && inWindow t.addr && (regOf t).any fun g => g.isParameter || g.badCode t.wdata

/-- The effect of a parameter's write; a code that no command has is refused (R181, R184 to R187). -/
def State.writeParameter (s : State) (k : Port) (g : Reg) (v : Word) : State :=
  match g with
  | .resTime => s.writeResTime k v
  | .noticeTime => s.writeNoticeTime k v
  | .urgency => s.writeUrgency k v
  | _ => s.refuse k

/-- CONTROL_WINDOW_WRITE (R185). -/
def execControlWindowWrite (s : State) : Host.Outcome State Fault Refusal :=
  takeRequest s isParameterWrite fun s k t =>
    s.checkedAccess k t fun s =>
      match regOf t with
      | none => s
      | some g => s.writeParameter k g t.wdata

/-- The region and word of a REGION group that a register is. -/
def Reg.regionWord? : Reg → Option (RegionId × Fin 4)
  | .regionWord n w => some (n, w)
  | _ => none

/-- REGION: a write to a word of a REGION group (R130). -/
def execRegion (s : State) : Host.Outcome State Fault Refusal :=
  takeRequest s (writesReg (fun g => g.regionWord?.isSome) fun _ => true) fun s k t =>
    s.checkedAccess k t fun s =>
      match (regOf t).bind Reg.regionWord? with
      | none => s
      | some (n, w) => s.writeRegion n w k t.wdata

/-- ENABLE: a write of ENABLE to REGION_CMD (R131). -/
def execEnable (s : State) : Host.Outcome State Fault Refusal :=
  takeWrite s (· == .regionCmd) (fun v => regionCmdCode v == 1) State.enableRegion

/-- DISABLE: a write of DISABLE to REGION_CMD (R132). -/
def execDisable (s : State) : Host.Outcome State Fault Refusal :=
  takeWrite s (· == .regionCmd) (fun v => regionCmdCode v == 2) State.disableRegion

/-- FORCE_PROBE: a write of FORCE_PROBE to REGION_CMD (R161). -/
def execForceProbe (s : State) : Host.Outcome State Fault Refusal :=
  takeWrite s (· == .regionCmd) (fun v => regionCmdCode v == 3) State.forceProbe

/-- FORCE_ONLINE: a write of FORCE_ONLINE to REGION_CMD (R162). -/
def execForceOnline (s : State) : Host.Outcome State Fault Refusal :=
  takeWrite s (· == .regionCmd) (fun v => regionCmdCode v == 4) State.forceOnline

/-- FORCE_OFFLINE: a write of FORCE_OFFLINE to REGION_CMD (R163). -/
def execForceOffline (s : State) : Host.Outcome State Fault Refusal :=
  takeWrite s (· == .regionCmd) (fun v => regionCmdCode v == 5) State.forceOffline

/-- CLEAN: a write of CLEAN to SWEEP_CMD (R167). -/
def execClean (s : State) : Host.Outcome State Fault Refusal :=
  takeWrite s (· == .sweepCmd) (fun v => sweepCmdCode v == 1) fun s k v => s.startSweep .clean k v

/-- FLUSH: a write of FLUSH to SWEEP_CMD (R167). -/
def execFlush (s : State) : Host.Outcome State Fault Refusal :=
  takeWrite s (· == .sweepCmd) (fun v => sweepCmdCode v == 2) fun s k v => s.startSweep .flush k v

/-- DISCARD: a write of DISCARD to SWEEP_CMD (R167). -/
def execDiscard (s : State) : Host.Outcome State Fault Refusal :=
  takeWrite s (· == .sweepCmd) (fun v => sweepCmdCode v == 3) fun s k v => s.startSweep .discard k v

/-- ABORT: a write of ABORT to SWEEP_CMD (R176). -/
def execAbort (s : State) : Host.Outcome State Fault Refusal :=
  takeWrite s (· == .sweepCmd) (fun v => sweepCmdCode v == 4) fun s k _ => s.abortSweep k

/-- LINE_QUERY: a write to LINE_QUERY (R188). -/
def execLineQuery (s : State) : Host.Outcome State Fault Refusal :=
  takeWrite s (· == .lineQuery0) (fun _ => true) State.queryLine

/-- A READ of EVENT_HEAD word 0 or word 1. -/
def readsEventHead (t : Transaction) : Bool :=
  t.kind == .read && inWindow t.addr && (regOf t == some .eventHead0 || regOf t == some .eventHead1)

/-- EVENT_HEAD: a READ of EVENT_HEAD (R191). -/
def execEventHead (s : State) : Host.Outcome State Fault Refusal :=
  takeRequest s readsEventHead fun s k t =>
    s.checkedAccess k t fun s =>
      if regOf t == some .eventHead0 then s.readWindow k .eventHead0 else s.readWindow k .eventHead1

/-- EVENT_POP: a write to EVENT_POP (R192). -/
def execEventPop (s : State) : Host.Outcome State Fault Refusal :=
  takeWrite s (· == .eventPop) (fun _ => true) fun s k _ => s.popEvent k

end Sys2Proof.Machine
end

