-- ==== Sys2Proof/Machine/Device.lean ====
section
/-! DEFINITION. The happenings at the Device Port: ACK, ERR, READY_TIMEOUT and PROBE_TIMER_RUN_OUT. -/

namespace Sys2Proof.Machine

/-- Whether a transfer is presented (R136). -/
def DevPhase.presents : DevPhase → Bool
  | .idle => false
  | .busy _ _ _ _ _ => true
  | .clearing _ _ => true

/-- Region `r`'s consecutive-timeout count takes a value. -/
def State.setCount (s : State) (r : RegionId) (n : Nat) : State := s.setRegion r { s.regions[r] with count := n }

/-- The Device Port's state is replaced. -/
def State.setPhase (s : State) (p : DevPhase) : State := { s with dev := { s.dev with phase := p } }

/-- The end of an orphan transfer: its answer is discarded and the head, if any, begins (R136). -/
def State.endOrphan (s : State) : State := (s.setPhase .idle).kick

/-! ## ACK (R140, R143) -/

/-- The bytes gathered of the present word after an ACK: a read places the bytes of the lanes moved (R137, R140). -/
def gather (op : Operation) (now : Transfer) (gathered data : Word) : Word :=
  if op.kind.isWrite then 0 else gathered ||| maskLanes now.lanes data

/-- Whether the operation keeps its words at the Device Port: a PORT_READ or PROBE (R140). -/
def OpKind.keeps : OpKind → Bool
  | .portRead _ => true
  | .probe => true
  | .fill _ => false
  | .drain _ => false
  | .portWrite _ _ => false

/-- A FILL adds a completed word to its slot's received words (R54, R140). -/
def State.receive (s : State) (op : Operation) (w : Word) : State :=
  match op.kind with
  | .fill i => { s with slots := setAt s.slots i (s.slots[i].map fun f => { f with received := f.received ++ [w] }) }
  | .drain _ => s
  | .portRead _ => s
  | .portWrite _ _ => s
  | .probe => s

/-- The words kept after an ACK that ends a word. -/
def keepWord (op : Operation) (kept : List Word) (w : Word) : List Word := if op.kind.keeps then kept ++ [w] else kept

/-- The result of an operation that ends with success is handed to the block that owns its source (R143). -/
def State.handSuccess (s : State) (op : Operation) (kept : List Word) : State :=
  match op.kind with
  | .fill i => s.completeFill i
  | .drain p => s.dropDrain p
  | .portRead k => (s.answerOwner op (.done (op.readData kept))).releasePlace k
  | .portWrite k _ => (s.answerOwner op (.done .nothing)).releasePlace k
  | .probe => s.comeOnline op.region (.regionOnlineProbe op.region)

/-- The head ends with success, and the Device Port turns to the next head (R136, R143). -/
def State.endSuccess (s : State) (op : Operation) (kept : List Word) : State := (s.popHead.handSuccess op kept).kick

/-- The next transfer of the head is presented, its ready timer started (R139, R140). -/
def State.presentNext (s : State) (t : Transfer) (rest : List Transfer) (gathered : Word) (kept : List Word) : State :=
  s.setPhase (.busy t s.regions[t.region].cfg.readyTimeout.toNat rest gathered kept)

/-- An ACK of a transfer of the head that ends its word. -/
def State.ackWord (s : State) (op : Operation) (rest : List Transfer) (w : Word) (kept : List Word) : State :=
  match rest with
  | [] => (s.receive op w).endSuccess op (keepWord op kept w)
  | t :: ts => (s.receive op w).presentNext t ts 0 (keepWord op kept w)

/-- An ACK of a transfer of the head (R140). -/
def State.ackHead (s : State) (op : Operation) (now : Transfer) (rest : List Transfer) (gathered : Word)
    (kept : List Word) (data : Word) : State :=
  if now.endsWord then (s.setCount now.region 0).ackWord op rest (gather op now gathered data) kept
  else
    match rest with
    | [] => (s.setCount now.region 0).ackWord op [] (gather op now gathered data) kept
    | t :: ts => (s.setCount now.region 0).presentNext t ts (gather op now gathered data) kept

/-- The device acknowledges the presented transfer (R136, R140). -/
def State.acked (s : State) (data : Word) : State :=
  match s.dev.phase, s.dev.queue with
  | .idle, _ => s
  | .clearing _ _, _ => s.endOrphan
  | .busy now _ rest gathered kept, op :: _ => s.ackHead op now rest gathered kept data
  | .busy _ _ _ _ _, [] => s

/-- ACK. An answer given while no transfer is presented is not taken (R196). -/
def execAck (data : Word) (s : State) : Host.Outcome State Fault Refusal :=
  happen s s.dev.phase.presents fun s => s.acked data

/-! ## ERR (R141, R143) -/

/-- A drain write answered ERR: the entry leaves the buffer with a DRAIN_LOST record (R73). -/
def State.loseDrain (s : State) (p : DrainPlace) : State :=
  match s.drainAt p with
  | none => s
  | some e => (s.record (.drainLost e.kind e.region e.line)).dropDrain p

/-- The result of an operation that ends by ERR is handed to the block that owns its source (R143). -/
def State.handError (s : State) (op : Operation) : State :=
  match op.kind with
  | .fill i => s.failFill i .device
  | .drain p => s.loseDrain p
  | .portRead k => (s.failPortOp op .device .device).releasePlace k
  | .portWrite k _ => (s.failPortOp op .device .device).releasePlace k
  | .probe => s.startProbeTimer op.region

/-- The device answers the presented transfer ERR (R136, R141). -/
def State.errored (s : State) : State :=
  match s.dev.phase, s.dev.queue with
  | .idle, _ => s
  | .clearing _ _, _ => s.endOrphan
  | .busy now _ _ _ _, op :: _ => (((s.setCount now.region 0).popHead).handError op).kick
  | .busy _ _ _ _ _, [] => s

/-- ERR, with ACK beside it or not: an answer that asserts both is taken as ERR (R196). -/
def execErr (_withAck : Bool) (s : State) : Host.Outcome State Fault Refusal :=
  happen s s.dev.phase.presents fun s => s.errored

/-! ## READY_TIMEOUT (R142, R143, R153) -/

/-- A drain whose write timed out: superseded by a younger entry for its line, HELD if the timeout took its region
OFFLINE, sent to the tail of the queue otherwise (R74). -/
def State.drainTimedOut (s : State) (op : Operation) (p : DrainPlace) (crossed : Bool) : State :=
  if superseded p op.line s.drains then s.dropDrain p
  else if crossed then s.holdDrain p
  else s.enqueue op

/-- The result of an operation that ends by timeout is handed to the block that owns its source (R143). -/
def State.handTimeout (s : State) (op : Operation) (crossed : Bool) : State :=
  match op.kind with
  | .fill i => s.failFill i .device
  | .drain p => s.drainTimedOut op p crossed
  | .portRead k => (s.failPortOp op .device .device).releasePlace k
  | .portWrite k _ => (s.failPortOp op .device .device).releasePlace k
  | .probe => s.startProbeTimer op.region

/-- A region's count after a timeout: one more, not above the threshold (R142). -/
def Region.countUp (g : Region) : Nat := min (g.count + 1) g.cfg.threshold.toNat

/-- Whether a timeout takes a region OFFLINE: it is ONLINE and its count reaches the threshold (R142). -/
def Region.crosses (g : Region) : Bool := g.health == .online && g.countUp == g.cfg.threshold.toNat

/-- A transfer of the head times out (R142, R153). -/
def State.timeoutHead (s : State) (op : Operation) (now : Transfer) : State :=
  if s.regions[now.region].crosses then
    ((s.setCount now.region s.regions[now.region].countUp).popHead).goOffline now.region
      (fun s => s.handTimeout op true) (.regionOfflineTimeout now.region op.line)
  else ((((s.setCount now.region s.regions[now.region].countUp).popHead).handTimeout op false).kick)

/-- The presented transfer's ready timer runs out: the transfer is withdrawn (R136, R139, R142). -/
def State.timedOut (s : State) : State :=
  match s.dev.phase, s.dev.queue with
  | .idle, _ => s
  | .clearing _ _, _ => s.endOrphan
  | .busy now _ _ _ _, op :: _ => s.timeoutHead op now
  | .busy _ _ _ _ _, [] => s

/-- READY_TIMEOUT. The time left on the ready timer has elapsed as it runs out, which is before any timer with more time
left (R197). -/
def execReadyTimeout (s : State) : Host.Outcome State Fault Refusal :=
  happen s (s.runsOut s.dev.phase.left) fun s => (s.elapse (s.dev.phase.left.getD 0)).timedOut

/-! ## PROBE_TIMER_RUN_OUT (R157) -/

/-- PROBE_TIMER_RUN_OUT. The time left on the probe timer has elapsed as it runs out, which is before any timer with more
time left; the timer stops and a PROBE joins the queue (R157, R197). -/
def execProbeTimerRunOut (r : RegionId) (s : State) : Host.Outcome State Fault Refusal :=
  happen s (s.runsOut s.regions[r].probeTimer) fun s =>
    (s.elapse (s.regions[r].probeTimer.getD 0)).queueProbe r

end Sys2Proof.Machine
end

