-- ==== Sys2Proof/Machine/Foreign.lean ====
section
/-! DEFINITION. The happenings of foreign writes: FOREIGN_WRITE at the input and EVALUATION at the directory. -/

namespace Sys2Proof.Machine

/-- The input has room (R115). -/
def ForeignFifo.hasRoom (f : ForeignFifo) : Bool := f.lines.length < 8

/-- A line address joins the tail of the FIFO, and the input gives its accept handshake (R115). An entry that becomes
the head is PENDING (R116). -/
def State.acceptForeign (s : State) (l : LineAddr) : State :=
  { s with
    fifo := { s.fifo with lines := s.fifo.lines ++ [l] }
    out := { s.out with foreignAccept := true } }

/-- FOREIGN_WRITE. Bits 4:0 of the address are not used; a full FIFO withholds the handshake and the agent keeps its
address presented, which is a later command (R115). -/
def execForeignWrite (a : Word) (s : State) : Host.Outcome State Fault Refusal :=
  happen s s.fifo.hasRoom fun s => s.acceptForeign (lineOf a)

/-- Whether the FIFO has a PENDING head (R116, R117). -/
def ForeignFifo.pendingHead (f : ForeignFifo) : Bool := !f.lines.isEmpty && f.deferred.isNone

/-- The head leaves the FIFO, and the next entry becomes the head, PENDING (R116, R117). -/
def State.popForeign (s : State) : State := { s with fifo := { lines := s.fifo.lines.tail, deferred := none } }

/-- The head becomes DEFERRED with a waiting set (R119). -/
def State.deferHead (s : State) (S : PortSet) : State := { s with fifo := { s.fifo with deferred := some S } }

/-- The region of the oldest drain entry for a line (R124). -/
def State.drainRegion (s : State) (l : LineAddr) : Option RegionId :=
  (s.drains.find? fun e => e.line == l).map (·.region)

/-- The FOREIGN_CONFLICT record of an evaluation: none, or its detail and region by the line's state and the drain
match (R121, R124). -/
def conflictOf (l : LineAddr) (dirty : Option RegionId) (drain : Option RegionId) : Option Event :=
  match dirty, drain with
  | none, none => none
  | none, some r => some (.foreignConflict .drainPending r l)
  | some r, none => some (.foreignConflict .dirtyDropped r l)
  | some r, some _ => some (.foreignConflict .both r l)

/-- Placing the record of an evaluation, if it makes one. -/
def State.recordConflict (s : State) (l : LineAddr) (dirty : Option RegionId) : State :=
  match conflictOf l dirty (s.drainRegion l) with
  | none => s
  | some e => s.record e

/-- The region of a DIRTY way. -/
def Entry.dirtyRegion? : Entry → Option RegionId
  | .dirty h => some h.region
  | .invalid => none
  | .clean _ => none
  | .filling _ _ _ => none

/-- The effect on a CLEAN or DIRTY line: the record, INVALIDATE to every sharer, the way INVALID, and the line's
reservation broken (R93, R120, R123). -/
def State.foreignInvalidate (s : State) (l : LineAddr) (w : WayIdx) (h : Held) : State :=
  ((((s.recordConflict l (s.entry (setOf l) w).dirtyRegion?).sendNotices .invalidate l h.sharers).invalidate (setOf l)
    w).freeLine l).popForeign

/-- The evaluation of a line that is held CLEAN or DIRTY: deferred where some sharer lacks room, else applied (R117,
R119, R120). -/
def State.evaluateHeld (s : State) (l : LineAddr) (w : WayIdx) (h : Held) : State :=
  if (s.lacking h.sharers l).any then s.deferHead (s.lacking h.sharers l)
  else s.foreignInvalidate l w h

/-- The fill of slot `i` is tainted (R122). -/
def State.taint (s : State) (i : SlotId) : State :=
  { s with slots := setAt s.slots i (s.slots[i].map fun f => { f with tainted := true }) }

/-- The evaluation of a line by the state of its way (R117 to R123). -/
def State.evaluateLine (s : State) (l : LineAddr) : State :=
  match s.lookup l with
  | none => (s.recordConflict l none).popForeign
  | some w =>
    match s.entry (setOf l) w with
    | .clean h => s.evaluateHeld l w h
    | .dirty h => s.evaluateHeld l w h
    | .filling _ _ i => ((s.taint i).recordConflict l none).popForeign
    | .invalid => (s.recordConflict l none).popForeign

/-- The evaluation of the FIFO's head (R117). -/
def State.evaluate (s : State) : State :=
  match s.fifo.lines with
  | [] => s
  | l :: _ => s.evaluateLine l

/-- EVALUATION. A DEFERRED head is not taken at the directory (R117, R119). -/
def execEvaluation (s : State) : Host.Outcome State Fault Refusal :=
  happen s s.fifo.pendingHead State.evaluate

end Sys2Proof.Machine
end

