-- ==== Sys2Proof/Machine/Notices.lean ====
section
/-! DEFINITION. The happenings at the Notice Unit: ACKNOWLEDGEMENT and NOTICE_TIMEOUT. -/

namespace Sys2Proof.Machine

/-- Whether the head of a queue names a line (R103). -/
def NoticeQueue.headNames (q : NoticeQueue) (l : LineAddr) : Bool :=
  match q.queue with
  | [] => false
  | n :: _ => n.line == l

/-- A queue with its head acknowledged: the timer restarts for the next head, or stops (R103, R104). -/
def NoticeQueue.acknowledged (q : NoticeQueue) (time : Nat) : NoticeQueue :=
  { queue := q.queue.tail, timer := if q.queue.tail.isEmpty then none else some time }

/-- The head notice of port `k` leaves its queue (R103, R125, R174). -/
def State.acknowledge (s : State) (k : Port) : State :=
  ({ s with notices := setAt s.notices k (s.notices[k].acknowledged s.noticeTime.toNat) } : State).roomGained k

/-- ACKNOWLEDGEMENT. Bits 4:0 of the word are not used (R189); an acknowledgement that does not name the head is ignored
(R103). -/
def execAcknowledgement (k : Port) (w : Word) (s : State) : Host.Outcome State Fault Refusal :=
  happen s (s.notices[k].headNames (lineOf w)) fun s => s.acknowledge k

/-- The record of a notice timeout: the head notice that went unacknowledged (R106). -/
def State.recordDetached (s : State) (k : Port) (n : Notice) : State := s.record (.portDetached n.kind k n.line)

/-- Port `k` is detached by its notice timer, with the record (R106, R107). -/
def State.noticeTimedOut (s : State) (k : Port) : State :=
  match s.notices[k].queue with
  | [] => s
  | n :: _ => (s.detach k).recordDetached k n

/-- NOTICE_TIMEOUT. The time left on the notice timer has elapsed as it runs out, which is before any timer with more time
left (R106, R197). -/
def execNoticeTimeout (k : Port) (s : State) : Host.Outcome State Fault Refusal :=
  happen s (s.runsOut s.notices[k].left) fun s => (s.elapse (s.notices[k].left.getD 0)).noticeTimedOut k

end Sys2Proof.Machine
end

