-- ==== Sys2Proof/Machine/Ports.lean ====
section
/-! DEFINITION. The happenings at the master ports and on the reset pins: ACCEPTANCE, PORT_RESET, PORT_RESET_DEASSERT and
POWER_ON_RESET. -/

namespace Sys2Proof.Machine

/-- Whether port `k` accepts a transaction: IDLE, with its reset line not asserted (R5). -/
def State.accepts (s : State) (k : Port) : Bool := s.ports[k].flight.isNone && !s.ports[k].resetLine

/-- Port `k` accepts a transaction, placed AT_PORT, and gives its accept handshake (R5, R6). -/
def State.accept (s : State) (k : Port) (t : Transaction) : State :=
  { s.place k (.atPort t) with out := { s.out with portAccept := some k } }

/-- ACCEPTANCE. A WAITING port and a port whose reset line is asserted accept nothing: the handshake is withheld and the
master keeps its transaction presented, which is a later command (R5). -/
def execAcceptance (k : Port) (t : Transaction) (s : State) : Host.Outcome State Fault Refusal :=
  happen s (s.accepts k) fun s => s.accept k t

/-- The state with port `k`'s reset line at a level. -/
def State.setResetLine (s : State) (k : Port) (level : Bool) : State :=
  s.setPort k { s.ports[k] with resetLine := level }

/-- PORT_RESET (R22). While the power-on reset pin is asserted the line has no effect beyond its level, which is looked
at when the pin is deasserted (R195). -/
def execPortReset (k : Port) (s : State) : Host.Outcome State Fault Refusal :=
  if s.porPin then .next (s.setResetLine k true) else .next (s.quiet.portReset k)

/-- PORT_RESET_DEASSERT: the port accepts the next transaction its master presents (R22). -/
def execPortResetDeassert (k : Port) (s : State) : Host.Outcome State Fault Refusal :=
  if s.porPin then .next (s.setResetLine k false) else .next (s.quiet.setResetLine k false)

/-- Every block at its power-on reset values, with the power-on reset pin at a level; the port reset lines are inputs
and keep theirs, and so do the queue of commands and the model's counter (R195). -/
def State.atPowerOn (s : State) (pin : Bool) : State :=
  { State.reset with
    pending := s.pending
    porPin := pin
    fresh := s.fresh
    ports := Vector.ofFn fun k => { State.reset.ports[k] with resetLine := s.ports[k].resetLine } }

/-- The ports whose reset line is asserted take port reset (R195). -/
def State.resetAsserted (s : State) : State :=
  allPorts.foldl (fun s k => if s.ports[k].resetLine then s.portReset k else s) s

/-- POWER_ON_RESET: the pin takes a level. Asserted, it holds every block at its power-on values; its deassertion leaves
the hub in CONFIG, and a port whose reset line is still asserted takes port reset (R195). -/
def execPowerOnReset (asserted : Bool) (s : State) : Host.Outcome State Fault Refusal :=
  if asserted then .next (s.atPowerOn true)
  else if s.porPin then .next (s.atPowerOn false).resetAsserted
  else .next s

end Sys2Proof.Machine
end

