-- ==== Sys2Proof/Machine/Reservations.lean ====
section
/-! DEFINITION. The happening the Reservation Table takes on its own: EXPIRY. -/

namespace Sys2Proof.Machine

/-- Entry `e` becomes FREE (R85). -/
def State.freeEntry (s : State) (e : ResId) : State := { s with res := setAt s.res e none }

/-- EXPIRY. The entry's remaining time has elapsed as it runs out, which is before any timer with more time left, and the
entry becomes FREE, without a response or a record (R85, R197). -/
def execExpiry (e : ResId) (s : State) : Host.Outcome State Fault Refusal :=
  happen s (s.runsOut (s.resLeft e)) fun s => (s.elapse ((s.resLeft e).getD 0)).freeEntry e

end Sys2Proof.Machine
end

