-- ==== Sys2Proof/Machine/Sweeps.lean ====
section
/-! DEFINITION. The steps of a sweep at the directory: CLEAN_SWEEP_STEP, FLUSH_SWEEP_STEP and DISCARD_SWEEP_STEP. -/

namespace Sys2Proof.Machine

/-- Whether the sweep presents a step of a command (R168). -/
def Sweep.presents (w : Sweep) (c : SweepCommand) : Bool := w.state == .running && w.command == some c

/-- The entry at the current set and way. -/
def State.sweepEntry (s : State) : Entry := s.entry s.sweep.set s.sweep.way

/-- Whether a region matches the filter (R168). -/
def Sweep.matchesRegion (w : Sweep) (r : RegionId) : Bool :=
  match w.filter with
  | none => true
  | some f => f == r

/-- The next way in the walk order, none after way 3 of set 127 (R168). -/
def Sweep.next (w : Sweep) : Option (SetIdx × WayIdx) :=
  if w.way = 3 then
    if w.set = 127 then none else some (w.set + 1, 0)
  else some (w.set, w.way + 1)

/-- The position moves to the next way, or the sweep ends with detail COMPLETED (R168, R175). -/
def State.advance (s : State) : State :=
  match s.sweep.next with
  | some (si, w) => { s with sweep := { s.sweep with set := si, way := w } }
  | none => s.endSweep false

/-- The skipped count rises (R172). -/
def State.countSkip (s : State) : State := { s with sweep := { s.sweep with skipped := s.sweep.skipped + 1 } }

/-- The written-back count rises (R172). -/
def State.countBack (s : State) : State := { s with sweep := { s.sweep with writtenBack := s.sweep.writtenBack + 1 } }

/-- The invalidated count rises (R172). -/
def State.countInvalid (s : State) : State :=
  { s with sweep := { s.sweep with invalidated := s.sweep.invalidated + 1 } }

/-- The way is skipped. -/
def State.skipWay (s : State) : State := s.countSkip.advance

/-- The sweep becomes WAITING at its way (R173). -/
def State.sweepWait (s : State) (w : SweepState) : State := { s with sweep := { s.sweep with state := w } }

/-- The line at the current way. -/
def State.sweepLine (s : State) (h : Held) : LineAddr := lineAt h.tag s.sweep.set

/-- The sharers of the line at the current way that lack notice room (R98). -/
def State.sweepLacking (s : State) (h : Held) : PortSet := s.lacking h.sharers (s.sweepLine h)

/-- Whether the line at the current way is reserved (R92). -/
def State.sweepReserved (s : State) (h : Held) : Bool := (s.resOf (s.sweepLine h)).isSome

/-! ## CLEAN (R169) -/

/-- A CLEAN step on a DIRTY line of an ONLINE region with drain room: a COPY entry is made and the line becomes CLEAN
(R169). -/
def State.cleanCopy (s : State) (h : Held) : State :=
  (((s.addDrain .copy (s.sweepLine h) h).setEntry s.sweep.set s.sweep.way (.clean h)).countBack).advance

/-- A CLEAN step on a DIRTY line (R169). -/
def State.cleanDirty (s : State) (h : Held) : State :=
  if s.isOffline h.region then s.skipWay
  else if s.drainRoom then s.cleanCopy h
  else s.sweepWait .waitingDrain

/-- A CLEAN step (R168, R169). -/
def State.cleanStep (s : State) : State :=
  match s.sweepEntry with
  | .invalid => s.advance
  | .clean _ => s.advance
  | .filling _ r _ => if s.sweep.matchesRegion r then s.skipWay else s.advance
  | .dirty h => if s.sweep.matchesRegion h.region then s.cleanDirty h else s.advance

/-- CLEAN_SWEEP_STEP (R169). -/
def execCleanSweepStep (s : State) : Host.Outcome State Fault Refusal :=
  happen s (s.sweep.presents .clean) State.cleanStep

/-! ## FLUSH (R170) -/

/-- A line leaves its way with a notice to every sharer (R170, R171). -/
def State.sweepOut (s : State) (h : Held) (kind : NoticeKind) : State :=
  (((s.sendNotices kind (s.sweepLine h) h.sharers).invalidate s.sweep.set s.sweep.way).countInvalid).advance

/-- A FLUSH step on a CLEAN line that is not reserved (R170). -/
def State.flushClean (s : State) (h : Held) : State :=
  if (s.sweepLacking h).any then s.sweepWait (.waitingNotice (s.sweepLacking h))
  else s.sweepOut h .revoke

/-- A FLUSH step on a DIRTY line that is not reserved (R170). -/
def State.flushDirty (s : State) (h : Held) : State :=
  if s.isOffline h.region then s.skipWay
  else if !s.drainRoom then s.sweepWait .waitingDrain
  else if (s.sweepLacking h).any then s.sweepWait (.waitingNotice (s.sweepLacking h))
  else (((s.addDrain .evict (s.sweepLine h) h).countBack).sweepOut h .revoke)

/-- A FLUSH step (R168, R170). -/
def State.flushStep (s : State) : State :=
  match s.sweepEntry with
  | .invalid => s.advance
  | .filling _ r _ => if s.sweep.matchesRegion r then s.skipWay else s.advance
  | .clean h =>
    if s.sweep.matchesRegion h.region then
      if s.sweepReserved h then s.skipWay else s.flushClean h
    else s.advance
  | .dirty h =>
    if s.sweep.matchesRegion h.region then
      if s.sweepReserved h then s.skipWay else s.flushDirty h
    else s.advance

/-- FLUSH_SWEEP_STEP (R170). -/
def execFlushSweepStep (s : State) : Host.Outcome State Fault Refusal :=
  happen s (s.sweep.presents .flush) State.flushStep

/-! ## DISCARD (R171) -/

/-- A DISCARD step on a CLEAN or DIRTY line (R171). -/
def State.discardHeld (s : State) (h : Held) : State :=
  if s.sweepReserved h then s.skipWay
  else if (s.sweepLacking h).any then s.sweepWait (.waitingNotice (s.sweepLacking h))
  else s.sweepOut h .invalidate

/-- A DISCARD step (R168, R171). -/
def State.discardStep (s : State) : State :=
  match s.sweepEntry with
  | .invalid => s.advance
  | .filling _ r _ => if s.sweep.matchesRegion r then s.skipWay else s.advance
  | .clean h => if s.sweep.matchesRegion h.region then s.discardHeld h else s.advance
  | .dirty h => if s.sweep.matchesRegion h.region then s.discardHeld h else s.advance

/-- DISCARD_SWEEP_STEP (R171). -/
def execDiscardSweepStep (s : State) : Host.Outcome State Fault Refusal :=
  happen s (s.sweep.presents .discard) State.discardStep

end Sys2Proof.Machine
end

