-- ==== Sys2Proof/Machine/Transactions.lean ====
section
/-! DEFINITION. The seven rows in which the directory takes a granted transaction of one kind: READ, WRITE, LINE_READ,
LINE_WRITE, RESERVE_READ, RELEASE_WRITE and RELEASE. Each is the intake of Machine/Intake.lean on a granted transaction
of its kind, at any address, the control window among them (R17, R18). -/

namespace Sys2Proof.Machine

/-- READ (R31). -/
def execRead (s : State) : Host.Outcome State Fault Refusal :=
  takeRequest s (fun t => t.kind == .read) State.intake

/-- WRITE (R33). -/
def execWrite (s : State) : Host.Outcome State Fault Refusal :=
  takeRequest s (fun t => t.kind == .write) State.intake

/-- LINE_READ (R32). -/
def execLineRead (s : State) : Host.Outcome State Fault Refusal :=
  takeRequest s (fun t => t.kind == .lineRead) State.intake

/-- LINE_WRITE (R47). -/
def execLineWrite (s : State) : Host.Outcome State Fault Refusal :=
  takeRequest s (fun t => t.kind == .lineWrite) State.intake

/-- RESERVE_READ (R81). -/
def execReserveRead (s : State) : Host.Outcome State Fault Refusal :=
  takeRequest s (fun t => t.kind == .reserveRead) State.intake

/-- RELEASE_WRITE (R87). -/
def execReleaseWrite (s : State) : Host.Outcome State Fault Refusal :=
  takeRequest s (fun t => t.kind == .releaseWrite) State.intake

/-- RELEASE (R88). -/
def execRelease (s : State) : Host.Outcome State Fault Refusal :=
  takeRequest s (fun t => t.kind == .release) State.intake

end Sys2Proof.Machine
end

