-- ==== Sys2Proof/Machine/Dispatch.lean ====
section
/-! DEFINITION. The meaning of each command: one arm for each constructor of Instr. -/

namespace Sys2Proof.Machine

def exec (i : Instr) (s : State) : Host.Outcome State Fault Refusal :=
  match i with
  | .acceptance k t => Sys2Proof.Machine.execAcceptance k t s
  | .read => Sys2Proof.Machine.execRead s
  | .write => Sys2Proof.Machine.execWrite s
  | .lineRead => Sys2Proof.Machine.execLineRead s
  | .lineWrite => Sys2Proof.Machine.execLineWrite s
  | .reserveRead => Sys2Proof.Machine.execReserveRead s
  | .releaseWrite => Sys2Proof.Machine.execReleaseWrite s
  | .release => Sys2Proof.Machine.execRelease s
  | .portReset k => Sys2Proof.Machine.execPortReset k s
  | .portResetDeassert k => Sys2Proof.Machine.execPortResetDeassert k s
  | .powerOnReset asserted => Sys2Proof.Machine.execPowerOnReset asserted s
  | .ack data => Sys2Proof.Machine.execAck data s
  | .err withAck => Sys2Proof.Machine.execErr withAck s
  | .readyTimeout => Sys2Proof.Machine.execReadyTimeout s
  | .probeTimerRunOut r => Sys2Proof.Machine.execProbeTimerRunOut r s
  | .expiry e => Sys2Proof.Machine.execExpiry e s
  | .acknowledgement k w => Sys2Proof.Machine.execAcknowledgement k w s
  | .noticeTimeout k => Sys2Proof.Machine.execNoticeTimeout k s
  | .foreignWrite a => Sys2Proof.Machine.execForeignWrite a s
  | .evaluation => Sys2Proof.Machine.execEvaluation s
  | .cleanSweepStep => Sys2Proof.Machine.execCleanSweepStep s
  | .flushSweepStep => Sys2Proof.Machine.execFlushSweepStep s
  | .discardSweepStep => Sys2Proof.Machine.execDiscardSweepStep s
  | .run => Sys2Proof.Machine.execRun s
  | .softReset => Sys2Proof.Machine.execSoftReset s
  | .portCfg => Sys2Proof.Machine.execPortCfg s
  | .attach => Sys2Proof.Machine.execAttach s
  | .detach => Sys2Proof.Machine.execDetach s
  | .controlWindowWrite => Sys2Proof.Machine.execControlWindowWrite s
  | .region => Sys2Proof.Machine.execRegion s
  | .enable => Sys2Proof.Machine.execEnable s
  | .disable => Sys2Proof.Machine.execDisable s
  | .forceProbe => Sys2Proof.Machine.execForceProbe s
  | .forceOnline => Sys2Proof.Machine.execForceOnline s
  | .forceOffline => Sys2Proof.Machine.execForceOffline s
  | .clean => Sys2Proof.Machine.execClean s
  | .flush => Sys2Proof.Machine.execFlush s
  | .discard => Sys2Proof.Machine.execDiscard s
  | .abort => Sys2Proof.Machine.execAbort s
  | .lineQuery => Sys2Proof.Machine.execLineQuery s
  | .eventHead => Sys2Proof.Machine.execEventHead s
  | .eventPop => Sys2Proof.Machine.execEventPop s

end Sys2Proof.Machine
end

