-- ==== Sys2Proof/Machine/Step.lean ====
section
/-! DEFINITION. One step: the command at the front of the queue, or a due running out, or one microsecond of the time base. -/

namespace Sys2Proof.Machine

/-- The block with a command taken off the front of its queue. -/
def State.withPending (s : State) (q : List Instr) : State := { s with pending := q }

/-- One step: the command at the front of the queue is taken with the queue's rest; on an empty queue a running out that is
due is taken, and with none due one microsecond elapses (R197; DESIGN CHOICE, notes/assumptions/3.md). -/
def step (s : State) : Host.Outcome State Fault Refusal :=
  match s.pending with
  | [] =>
    match s.dueCommand with
    | none => .next s.tick
    | some c => exec c s
  | c :: cs => exec c (s.withPending cs)

/-- The state with the command a word spells at the front of its queue; no word spells one, since the table gives no
row any bits. -/
def State.withFetchWord (s : State) (nbits w : Nat) : State :=
  match Sys2Proof.decodeTableWord nbits w with
  | none => s
  | some c => s.withPending (c :: s.pending)

end Sys2Proof.Machine
end

