-- ==== Sys2Proof/Safety.lean ====
section
/-! DEFINITION. The terms that claims are stated in: what a command at the directory meets, the state after a happening
that answers one port, and the conditions that every state of a run keeps. -/

namespace Sys2Proof

/-- The command that takes a granted transaction of a kind at the Line Directory. -/
def Kind.command : Kind → Instr
  | .read => .read
  | .write => .write
  | .lineRead => .lineRead
  | .lineWrite => .lineWrite
  | .reserveRead => .reserveRead
  | .releaseWrite => .releaseWrite
  | .release => .release

/-- RELEASE_WRITE and RELEASE. -/
def Kind.isRelease : Kind → Bool
  | .releaseWrite => true
  | .release => true
  | .read => false
  | .write => false
  | .lineRead => false
  | .lineWrite => false
  | .reserveRead => false

end Sys2Proof

namespace Sys2Proof.Machine

/-! ## What a granted transaction meets -/

/-- The directory can take a port request, and the Intake Arbiter grants port `k`'s transaction `t` (R15, R195). -/
def State.takes (s : State) (k : Port) (t : Transaction) : Prop := s.porPin = false ∧ s.granted = some (k, t)

/-- Port `k`'s granted transaction passes the intake checks of steps 1 to 5, and `r` is its region (R17 to R21). -/
def State.reaches (s : State) (k : Port) (t : Transaction) (r : RegionId) : Prop :=
  s.takes k t ∧ s.hub = .run ∧ inWindow t.addr = false ∧ (t.kind.usesLanes = true → legalShape t.lanes = true) ∧
    s.regionAt t.addr = some r ∧ (t.kind.isReservation = true → s.regions[r].cfg.cacheable = true)

/-- The lookup of line `l` is a hit at way `w`, CLEAN or DIRTY, which holds `h` (R27). -/
def State.hits (s : State) (l : LineAddr) (w : WayIdx) (h : Held) : Prop :=
  s.lookup l = some w ∧ (s.entry (setOf l) w).held? = some h

/-- A miss of port `k`'s granted transaction `t` reaches victim choice: steps 7 to 11 let it pass (R41 to R43). -/
def State.missAdmitted (s : State) (k : Port) (t : Transaction) (r : RegionId) : Prop :=
  t.kind.isRelease = false ∧ s.reaches k t r ∧ s.lookup t.line = none ∧ (∀ e ∈ s.drains, e.line ≠ t.line) ∧
    s.isOffline r = false ∧ s.missBypasses { port := k, txn := t, region := r } = false ∧
    (t.kind = .reserveRead → s.owned k < 2 ∧ ∃ i : ResId, s.res[i] = none)

/-- Port `k`'s granted access to register `g` of the control window passes steps 1 to 4 of R179. -/
def State.accesses (s : State) (k : Port) (t : Transaction) (g : Reg) : Prop :=
  s.takes k t ∧ inWindow t.addr = true ∧ t.lanes = 0b1111 ∧ regOf t = some g

/-- A granted WRITE of `v` to register `g` that passes steps 1 to 4 of R179. -/
def State.writes (s : State) (k : Port) (g : Reg) (v : Word) : Prop :=
  ∃ t : Transaction, s.accesses k t g ∧ t.kind = .write ∧ t.wdata = v ∧ s.ports[k].permission = true ∧
    g.access ≠ .readOnly

/-- The row of the table that a WRITE of `v` to register `g` is under its own name, none for a read-only register (R181, R184
to R188, R192; notes/assumptions/11.md). -/
def windowRow (g : Reg) (v : Word) : Option Instr :=
  match g with
  | .hubState => some (if v.extractLsb' 0 2 = 1 then .run else if v.extractLsb' 0 2 = 2 then .softReset
      else .controlWindowWrite)
  | .portCfg _ => some .portCfg
  | .portCmd => some (if v.extractLsb' 8 2 = 1 then .attach else if v.extractLsb' 8 2 = 2 then .detach
      else .controlWindowWrite)
  | .resTime => some .controlWindowWrite
  | .noticeTime => some .controlWindowWrite
  | .urgency => some .controlWindowWrite
  | .regionCmd => some (if v.extractLsb' 8 3 = 1 then .enable else if v.extractLsb' 8 3 = 2 then .disable
      else if v.extractLsb' 8 3 = 3 then .forceProbe else if v.extractLsb' 8 3 = 4 then .forceOnline
      else if v.extractLsb' 8 3 = 5 then .forceOffline else .controlWindowWrite)
  | .sweepCmd => some (if v.extractLsb' 0 3 = 1 then .clean else if v.extractLsb' 0 3 = 2 then .flush
      else if v.extractLsb' 0 3 = 3 then .discard else if v.extractLsb' 0 3 = 4 then .abort
      else .controlWindowWrite)
  | .lineQuery0 => some .lineQuery
  | .eventPop => some .eventPop
  | .regionWord _ _ => some .region
  | .sweepStatus0 => none
  | .sweepStatus1 => none
  | .lineQuery1 => none
  | .eventHead0 => none
  | .eventHead1 => none
  | .eventStatus => none

/-- The offset of a register from the window's first address (R183, the first column of the layout table). -/
def Reg.offset (g : Reg) : Nat :=
  match g with
  | .hubState => 0x000
  | .portCfg k => 0x010 + 4 * k.val
  | .portCmd => 0x020
  | .resTime => 0x030
  | .noticeTime => 0x034
  | .urgency => 0x038
  | .regionCmd => 0x040
  | .sweepCmd => 0x050
  | .sweepStatus0 => 0x054
  | .sweepStatus1 => 0x058
  | .lineQuery0 => 0x060
  | .lineQuery1 => 0x064
  | .eventHead0 => 0x070
  | .eventHead1 => 0x074
  | .eventPop => 0x078
  | .eventStatus => 0x07C
  | .regionWord n w => 0x100 + 0x10 * n.val + 4 * w.val

/-! ## The state after a happening -/

/-- The outputs of a happening that gives the responses `rs` and no handshake. -/
def outputs (rs : List (Port × Response)) : Outputs := { responses := rs, portAccept := none, foreignAccept := false }

/-- The state in which the directory has taken port `k`'s transaction and has not yet acted on it: `k` is the last-granted
port, and nothing is given out (R15). -/
def State.taken (s : State) (k : Port) : State := { s with lastGranted := k, out := outputs [] }

/-- A port after the response `r`: IDLE, and the retry count as R13 gives. -/
def MasterPort.idleAfter (p : MasterPort) (r : Response) : MasterPort :=
  { p with
    flight := none
    retry := match r with
      | .retry _ => min (p.retry + 1) 15
      | _ => 0 }

/-- The state after a happening in which the directory takes port `k`'s transaction and answers it `r`, and nothing else
changes (R7, R13, R15). -/
def State.answering (s : State) (k : Port) (r : Response) : State :=
  { s with
    lastGranted := k
    ports := setAt s.ports k (s.ports[k].idleAfter r)
    out := outputs [(k, r)] }

/-- The state after a happening in which the directory takes port `k`'s transaction and places it at `p`, and nothing
else changes (R6, R15). -/
def State.placing (s : State) (k : Port) (p : Placement) : State :=
  { s with
    lastGranted := k
    ports := setAt s.ports k { s.ports[k] with flight := some p }
    out := outputs [] }

/-- The ports after responses, each as R13 gives. -/
def answeredPorts (ports : Vector MasterPort 4) (rs : List (Port × Response)) : Vector MasterPort 4 :=
  rs.foldl (fun P x => setAt P x.1 (P[x.1].idleAfter x.2)) ports

/-- The state after a happening that gives the responses `rs` and changes nothing else (R7, R13). -/
def State.withAnswers (s : State) (rs : List (Port × Response)) : State :=
  { s with ports := answeredPorts s.ports rs, out := outputs rs }

/-- The one answer `r` to each transaction of a list of requests, in order. -/
def answersTo (qs : List Request) (r : Response) : List (Port × Response) := qs.map fun q => (q.port, r)

/-- The answer `r` to an operation's owner, if it still has one (R146 to R148). -/
def ownerAnswer (op : Operation) (r : Response) : List (Port × Response) := op.owner.toList.map fun k => (k, r)

/-- The directory with way `w` of set `si` holding `e` and at the front of the recency list (R39). -/
def State.withFront (s : State) (si : SetIdx) (w : WayIdx) (e : Entry) : Vector DirSet 128 :=
  setAt s.dir si
    { ways := setAt s.dir[si].ways w e, recency := w :: s.dir[si].recency.filter fun x => x != w }

/-- The directory with way `w` of set `si` INVALID and at the back of the recency list (R39). -/
def State.withInvalid (s : State) (si : SetIdx) (w : WayIdx) : Vector DirSet 128 :=
  setAt s.dir si
    { ways := setAt s.dir[si].ways w .invalid, recency := (s.dir[si].recency.filter fun x => x != w) ++ [w] }

/-- The notice queues after a notice of a kind for line `l` is sent to the ports of `S` (R99). -/
def State.notified (s : State) (kind : NoticeKind) (l : LineAddr) (S : PortSet) : Vector NoticeQueue 4 :=
  Vector.ofFn fun k => if S[k] = true then s.notices[k].sent kind l s.noticeTime.toNat else s.notices[k]

/-- Every port of a set has notice room for line `l` (R34, R98). -/
def State.roomFor (s : State) (S : PortSet) (l : LineAddr) : Prop :=
  ∀ k : Port, S[k] = true → s.notices[k].hasRoom l = true

/-- The region table with region `r`'s consecutive-timeout count at `n`. -/
def State.withCount (s : State) (r : RegionId) (n : Nat) : Vector Region 8 :=
  setAt s.regions r { s.regions[r] with count := n }

/-- The Device Port with an empty bus that turns to the head of `queue` (R136). -/
def DevicePort.turnTo (d : DevicePort) (regions : Vector Region 8) (queue : List Operation) : DevicePort :=
  { d with queue := queue, phase := presentHead regions queue }

/-- The Device Port after port `k`'s operation has left an empty bus, with `queue` behind it: port `k`'s place is FREE, or
ACTIVE with its parked operation at the tail, and the Device Port turns to the head (R136, R146, R149). -/
def DevicePort.afterOwn (d : DevicePort) (regions : Vector Region 8) (k : Port) (queue : List Operation) : DevicePort :=
  match d.places[k] with
  | .orphaned (some op) =>
    { queue := queue ++ [op], places := setAt d.places k .active, phase := presentHead regions (queue ++ [op]) }
  | _ => { queue := queue, places := setAt d.places k .free, phase := presentHead regions queue }

/-- The records a failed port operation makes: WRITE_LOST for a write-through write, none for any other (R147). -/
def lostOf (how : LostHow) (op : Operation) : List Event :=
  match op.kind with
  | .portWrite k true => [.writeLost how k op.region op.line]
  | _ => []

/-- The head `op` is under way at the Device Port, its transfer `now` presented with `timer` µs left, `rest` still to
present, and `q` behind it on the queue (R136). -/
def State.underWay (s : State) (op : Operation) (q : List Operation) (now : Transfer) (timer : Nat)
    (rest : List Transfer) (gathered : Word) (kept : List Word) : Prop :=
  s.porPin = false ∧ s.dev.queue = op :: q ∧ s.dev.phase = .busy now timer rest gathered kept

/-- A port operation of port `k`. -/
def Operation.isOfPort (x : Operation) (k : Port) : Prop :=
  x.kind = .portRead k ∨ x.kind = .portWrite k true ∨ x.kind = .portWrite k false

/-- The answers to the transactions of an operation that ends with a cause: to the requester and the waiters of a fill's
slot, in that order, and to the owner of a port operation (R65, R147). -/
def failureAnswers (slots : Vector (Option Fill) 4) (c : FaultCause) (op : Operation) : List (Port × Response) :=
  match op.kind with
  | .fill i => match slots[i] with
    | none => []
    | some f => answersTo (f.requester.toList ++ f.waiters) (.fault c)
  | .portRead _ => ownerAnswer op (.fault c)
  | .portWrite _ _ => ownerAnswer op (.fault c)
  | .drain _ => []
  | .probe => []

/-- The fills among a list of operations, in its order. -/
def fillsOf (slots : Vector (Option Fill) 4) (ops : List Operation) : List Fill :=
  ops.filterMap fun op => match op.kind with
    | .fill i => slots[i]
    | _ => none

/-- The directory with the ways of failed fills INVALID, each at the back of its set's recency list, one after the other
(R39, R65). -/
def waysFreed (dir : Vector DirSet 128) (fills : List Fill) : Vector DirSet 128 :=
  fills.foldl (fun D f => setAt D (setOf f.line)
    { ways := setAt D[setOf f.line].ways f.way .invalid,
      recency := (D[setOf f.line].recency.filter fun x => x != f.way) ++ [f.way] }) dir

/-- The port of a port operation. -/
def Operation.port? (op : Operation) : Option Port :=
  match op.kind with
  | .portRead k => some k
  | .portWrite k _ => some k
  | .fill _ => none
  | .drain _ => none
  | .probe => none

/-- The parked operations of region `r`, by port number (R149, R153). -/
def State.parkedIn (s : State) (r : RegionId) : List Operation :=
  (allPorts.filterMap fun k => s.dev.places[k].parked).filter fun op => op.region == r

/-- The parked operation of port `k` that outlives the departure of region `r`: the one of another region (R149). -/
def State.parkedBeside (s : State) (r : RegionId) (k : Port) : Option Operation :=
  match s.dev.places[k].parked with
  | none => none
  | some op => if op.region = r then none else some op

/-- Port `k`'s place as region `r` departs and the operations `ended` leave the queue: if one of them is the port's, FREE
or ACTIVE with the parked operation that takes the place; otherwise as it was, without a parked operation of the region
(R147 to R149). -/
def State.placeAfter (s : State) (r : RegionId) (ended : List Operation) (k : Port) : Place :=
  if ended.any (fun op => op.port? == some k) = true then
    match s.parkedBeside r k with
    | none => .free
    | some _ => .active
  else
    match s.dev.places[k] with
    | .free => .free
    | .active => .active
    | .orphaned _ => .orphaned (s.parkedBeside r k)

/-- What a departure of region `r` does to its work (R144, R147, R149, R153): `own` is the operation whose timeout caused it
and ends with cause DEVICE, and of `queue`, the operations behind it, those of the region are removed and, after it, handed
on with cause OFFLINE in queue order, then the parked ones by port number; where the spec leaves that order open, it is the
model's choice (notes/assumptions/18.md). A fill answers its transactions, its way becomes
INVALID at the back of its recency list and its slot FREE, and a sweep that waits at the way goes on; a drain becomes HELD;
a port operation answers its owner, with a WRITE_LOST record if it is write-through, and its place becomes FREE or takes
the parked operation of another region, which joins the tail. The other operations keep their order. Nothing else
changes. -/
def State.handedOn (s : State) (r : RegionId) (own : Option Operation) (queue : List Operation) : State :=
  let removed := queue.filter fun op => op.region == r
  let ended := own.toList ++ removed
  let fills := fillsOf s.slots ended
  let rs := own.toList.flatMap (failureAnswers s.slots .device) ++ removed.flatMap (failureAnswers s.slots .offline) ++
    (s.parkedIn r).flatMap fun op => ownerAnswer op (.fault .offline)
  { s.withAnswers rs with
    slots := Vector.ofFn fun i => if ended.any (fun op => op.kind == .fill i) = true then none else s.slots[i]
    dir := waysFreed s.dir fills
    sweep := fills.foldl (fun w f => w.wayChanged (setOf f.line) f.way) s.sweep
    drains := s.drains.map fun e =>
      if ended.any (fun op => op.kind == .drain e.place) = true then { e with held := true } else e
    events := (own.toList.flatMap (lostOf .device) ++ removed.flatMap (lostOf .offline) ++
      (s.parkedIn r).flatMap (lostOf .offline)).foldl EventQueue.push s.events
    dev := { s.dev with
      queue := (queue.filter fun op => op.region != r) ++
        ended.filterMap fun op => op.port?.bind (s.parkedBeside r)
      places := Vector.ofFn (s.placeAfter r ended) } }

/-- The drain write `op` is superseded: an entry younger than its own names its line (R74). -/
def State.supersedes (s : State) (op : Operation) : Prop :=
  ∃ p older e younger, op.kind = .drain p ∧ s.drains = older ++ e :: younger ∧ e.place = p ∧
    (∀ x ∈ older, x.place ≠ p) ∧ ∃ y ∈ younger, y.line = op.line

/-- No running timer has less than `n` µs left: the ready timer, the notice timers, the reservations, the probe timers. -/
def State.noneSooner (s : State) (n : Nat) : Prop :=
  (∀ m ∈ s.dev.phase.left, n ≤ m) ∧
    (∀ k : Port, s.notices[k].queue ≠ [] → ∀ m ∈ s.notices[k].timer, n ≤ m) ∧
    (∀ e : ResId, ∀ x ∈ s.res[e], n ≤ x.remaining) ∧
    ∀ r : RegionId, ∀ m ∈ s.regions[r].probeTimer, n ≤ m

/-- The notices, the foreign notice FIFO and the sweep once port `k`'s notice queue has been emptied, and every sharer set
without `k`: a DEFERRED head and a WAITING sweep that the queue held back go on (R50, R107, R125, R174). -/
def State.unshared (s : State) (k : Port) : State :=
  { s with
    dir := mapAll s.dir fun d => { d with ways := mapAll d.ways fun e => match e with
      | .clean h => .clean { h with sharers := setAt h.sharers k false }
      | .dirty h => .dirty { h with sharers := setAt h.sharers k false }
      | .invalid => .invalid
      | .filling tag r i => .filling tag r i }
    notices := setAt s.notices k { queue := [], timer := none }
    fifo := match s.fifo.deferred with
      | none => s.fifo
      | some S => if s.notices[k].queue ≠ [] ∧ S[k] = true then { s.fifo with deferred := none } else s.fifo
    sweep := match s.sweep.state with
      | .waitingNotice S =>
        if s.notices[k].queue ≠ [] ∧ S[k] = true then { s.sweep with state := .running } else s.sweep
      | _ => s.sweep }

/-- The state after a step of the sweep that is not held back: the position moves to the next way of the walk, and the
step on way 3 of set 127 ends the sweep with its SWEEP_DONE record (R168, R175). -/
def State.walked (s : State) : State :=
  if s.sweep.way = 3 ∧ s.sweep.set = 127 then
    { s with
      sweep := { s.sweep with state := .idle, aborted := false }
      events := s.events.push (.sweepDone false s.sweep.issuer s.sweep.filter) }
  else if s.sweep.way = 3 then { s with sweep := { s.sweep with set := s.sweep.set + 1, way := 0 } }
  else { s with sweep := { s.sweep with way := s.sweep.way + 1 } }

/-- The way at which the sweep stands concerns it, with region `r` (R168). -/
def State.concerned (s : State) (r : RegionId) : Prop :=
  (s.entry s.sweep.set s.sweep.way).region? = some r ∧ (s.sweep.filter = none ∨ s.sweep.filter = some r)

/-- A RUNNING sweep presents a step of command `c` to the directory (R168). -/
def State.sweeping (s : State) (c : SweepCommand) : Prop :=
  s.porPin = false ∧ s.sweep.state = .running ∧ s.sweep.command = some c

/-! ## What every state of a run keeps -/

/-- Every recency list is a permutation of the set's four ways (R39). -/
def State.recencyOrdered (s : State) : Prop := ∀ si : SetIdx, s.dir[si].recency.Perm allWays

/-- The queues and buffers hold what the spec allows them: 2 drain entries, 8 foreign reports, 16 records; a queue with
the overflow flag set is never empty (R192), and a DEFERRED head is a head (R69, R116, R190). -/
def State.withinCapacity (s : State) : Prop :=
  s.drains.length ≤ 2 ∧ s.fifo.lines.length ≤ 8 ∧ s.events.records.length ≤ 16 ∧
    (s.events.overflow = true → s.events.records ≠ []) ∧ (s.fifo.deferred.isSome = true → s.fifo.lines ≠ [])

/-- A notice queue holds at most 4 notices, no two naming the same line, and its timer runs exactly while it is not
empty (R96, R104). -/
def NoticeQueue.sound (q : NoticeQueue) : Prop :=
  q.queue.length ≤ 4 ∧ (q.queue.map (·.line)).Nodup ∧ (q.timer.isSome = true ↔ q.queue ≠ [])

/-- The notice queues are sound, the queue of a PLAIN or DETACHED port is empty (R96), and every sharer is COHERENT and
ATTACHED (R49). -/
def State.coherent (s : State) : Prop :=
  (∀ k : Port, s.notices[k].sound ∧ (s.notices[k].queue ≠ [] → s.ports[k].mode = .coherent true)) ∧
    ∀ (si : SetIdx) (w : WayIdx) (k : Port), (s.entry si w).sharers[k] = true → s.ports[k].mode = .coherent true

/-- No two HELD entries name the same line, and no port owns more than 2 (R77). -/
def State.reservationsSound (s : State) : Prop :=
  (∀ (i j : ResId) (l : LineAddr), reserves l s.res[i] = true → reserves l s.res[j] = true → i = j) ∧
    ∀ k : Port, s.owned k ≤ 2

/-- The parameters are in range, every retry count is at most 15, and some port has control permission (R13, R14, R80,
R105, R184). -/
def State.parametersSound (s : State) : Prop :=
  s.urgency ≠ 0 ∧ s.resTime ≠ 0 ∧ s.noticeTime ≠ 0 ∧ (∀ k : Port, s.ports[k].retry ≤ 15) ∧
    ∃ k : Port, s.ports[k].permission = true

/-- The directory, the fill slots and the Reservation Table agree: no two ways hold one line (R26); a BUSY slot names its
FILLING way and every transaction of the slot is for its line, and a FILLING way names a BUSY slot that names the way back
(R53); a HELD entry names a line held CLEAN or DIRTY (R77). -/
def State.linesSound (s : State) : Prop :=
  (∀ (si : SetIdx) (v w : WayIdx) (tag : Tag), (s.entry si v).tag? = some tag → (s.entry si w).tag? = some tag → v = w) ∧
    (∀ (i : SlotId) (f : Fill), s.slots[i] = some f →
      s.entry (setOf f.line) f.way = .filling (tagOf f.line) f.region i ∧
        ∀ q ∈ f.requester.toList ++ f.waiters, q.txn.line = f.line) ∧
    (∀ (si : SetIdx) (w : WayIdx) (tag : Tag) (r : RegionId) (i : SlotId), s.entry si w = .filling tag r i →
      ∃ f, s.slots[i] = some f ∧ f.line = lineAt tag si ∧ f.way = w ∧ f.region = r) ∧
    ∀ (e : ResId) (x : Reservation), s.res[e] = some x →
      ∃ w h, (s.entry (setOf x.line) w).held? = some h ∧ h.tag = tagOf x.line

/-- A place on the device operation queue (R134). -/
inductive QueuePlace
  | fill (i : SlotId)
  | drain (p : DrainPlace)
  | port (k : Port)
  | probe (r : RegionId)
  deriving DecidableEq, Repr

/-- The place an operation takes on the device operation queue (R134). -/
def Operation.place (op : Operation) : QueuePlace :=
  match op.kind with
  | .fill i => .fill i
  | .drain p => .drain p
  | .portRead k => .port k
  | .portWrite k _ => .port k
  | .probe => .probe op.region

/-- No two operations of the device operation queue take the same place (R134). -/
def State.placesDistinct (s : State) : Prop := (s.dev.queue.map Operation.place).Nodup

/-- The fill slots and the queue agree: a slot's transactions are its allocating port's as requester and those of other
ports, all different, as waiters, each placed so at its port (R6, R53), and the slot is BUSY exactly while its read is on
the queue (R54). -/
def State.fillsQueued (s : State) : Prop :=
  (∀ (i : SlotId) (f : Fill), s.slots[i] = some f →
    (∀ q ∈ f.requester, q.port = f.allocPort ∧ s.ports[q.port].flight = some (.requester i)) ∧
      (∀ q ∈ f.waiters, q.port ≠ f.allocPort ∧ s.ports[q.port].flight = some (.waiter i)) ∧
      (f.waiters.map (·.port)).Nodup ∧
      ∃ op ∈ s.dev.queue, op.kind = .fill i ∧ op.region = f.region ∧ op.line = f.line) ∧
    ∀ op ∈ s.dev.queue, ∀ i : SlotId, op.kind = .fill i → s.slots[i] ≠ none

/-- The drain buffer and the queue agree: no two entries have one place, the write of a QUEUED entry is on the queue, and a
drain write on the queue is that of a QUEUED entry (R69, R70, R134). -/
def State.drainsQueued (s : State) : Prop :=
  (s.drains.map (·.place)).Nodup ∧ (∀ e ∈ s.drains, e.held = false → e.op ∈ s.dev.queue) ∧
    ∀ op ∈ s.dev.queue, ∀ p : DrainPlace, op.kind = .drain p → ∃ e ∈ s.drains, e.held = false ∧ e.op = op

/-- The port operation places and the queue agree: a FREE place has no operation on the queue, an ACTIVE place has one that
the port owns, an ORPHANED place one without an owner, and a parked operation is the port's own; a transaction is placed
PORT_OP exactly while it owns the queued or the parked operation (R6, R145, R148, R149). -/
def State.portOpsQueued (s : State) : Prop :=
  ∀ k : Port,
    (s.dev.places[k] = .free → ∀ op ∈ s.dev.queue, op.port? ≠ some k) ∧
    (s.dev.places[k] = .active → ∃ op ∈ s.dev.queue, op.port? = some k ∧ op.owner = some k) ∧
    (∀ parked, s.dev.places[k] = .orphaned parked →
      (∃ op ∈ s.dev.queue, op.port? = some k ∧ op.owner = none) ∧
        ∀ op ∈ parked, op.port? = some k ∧ op.owner = some k) ∧
    (s.ports[k].flight = some .portOp ↔
      (s.dev.places[k] = .active ∨ ∃ op, s.dev.places[k] = .orphaned (some op)))

/-- The region table and the queue agree: a probe on the queue is of an OFFLINE region whose probe timer is STOPPED, a probe
timer runs in an OFFLINE region alone, and an OFFLINE region has one or the other (R134, R152, R157). -/
def State.probesQueued (s : State) : Prop :=
  (∀ op ∈ s.dev.queue, op.kind = .probe →
    s.regions[op.region].health = .offline ∧ s.regions[op.region].probeTimer = none) ∧
    ∀ r : RegionId, (s.regions[r].probeTimer ≠ none → s.regions[r].health = .offline) ∧
      (s.regions[r].health = .offline →
        s.regions[r].probeTimer ≠ none ∨ ∃ op ∈ s.dev.queue, op.kind = .probe ∧ op.region = r)

/-- The device operation queue is as R134 allows, and agrees with the blocks its operations belong to; a Device Port that is
BUSY presents a transfer of the head's region (R136, R137). -/
def State.queueSound (s : State) : Prop :=
  s.placesDistinct ∧ s.fillsQueued ∧ s.drainsQueued ∧ s.portOpsQueued ∧ s.probesQueued ∧
    ∀ now timer rest gathered kept, s.dev.phase = .busy now timer rest gathered kept →
      ∃ op q, s.dev.queue = op :: q ∧ ∀ x ∈ now :: rest, x.region = op.region

/-- Everything a state of a run keeps, in the terms above. -/
def State.sound (s : State) : Prop :=
  s.recencyOrdered ∧ s.withinCapacity ∧ s.coherent ∧ s.reservationsSound ∧ s.parametersSound ∧ s.linesSound ∧
    s.queueSound

end Sys2Proof.Machine
end

