-- ==== Sys2Proof/Certificates/Slice0/Obligations.lean ====
section
/-! DEFINITION. The statements about the SK-416 for the provers. A statement cites the rules of spec/ it formalises in its
docstring; OBLIGATIONS.json lists them in order. -/

open Sys2Proof Sys2Proof.Machine

/-! ## The machine -/

/-- A step takes the command at the front of the queue and is `exec` of it on the state with the queue's rest. The queue
is the model's own (notes/assumptions/1.md). -/
def Obligations.StepTakesFrontCommand : Prop :=
  ∀ (c : Instr) (cs : List Instr) (s : State),
    step { s with pending := c :: cs } = exec c { s with pending := cs }

/-- With no command waiting a step is one microsecond of the time base while every running timer has time left (R197): every
running timer counts down by one. A timer with none left runs out instead, by the row of its own running out, before any
more time elapses. Nothing happens under the power-on reset pin (R195). That this is what an empty queue does, and which of
several due timers runs out first, is the model's choice (notes/assumptions/3.md). -/
def Obligations.StepOnEmptyQueueElapsesOneMicrosecond : Prop :=
  ∀ s : State, s.pending = [] →
    (s.porPin = true → step s = .next s) ∧
    (s.porPin = false → s.noneSooner 1 → ∃ t : State, step s = .next t ∧
      t = { s with res := t.res, notices := t.notices, regions := t.regions, dev := t.dev } ∧
      (∀ i : ResId, t.res[i] = s.res[i].map fun r => { r with remaining := r.remaining - 1 }) ∧
      (∀ k : Port, t.notices[k] = { s.notices[k] with timer := s.notices[k].timer.map fun n => n - 1 }) ∧
      (∀ r : RegionId, t.regions[r] = { s.regions[r] with probeTimer := s.regions[r].probeTimer.map fun n => n - 1 }) ∧
      t.dev.queue = s.dev.queue ∧ t.dev.places = s.dev.places ∧
      (s.dev.phase = .idle → t.dev.phase = .idle) ∧
      (∀ now n rest gathered kept, s.dev.phase = .busy now n rest gathered kept →
        t.dev.phase = .busy now (n - 1) rest gathered kept) ∧
      ∀ orphan n, s.dev.phase = .clearing orphan n → t.dev.phase = .clearing orphan (n - 1)) ∧
    (s.porPin = false → ¬ s.noneSooner 1 → ∃ c : Instr, step s = exec c s ∧
      ((c = .readyTimeout ∧ s.dev.phase.left = some 0) ∨
        (∃ k : Port, c = .noticeTimeout k ∧ s.notices[k].queue ≠ [] ∧ s.notices[k].timer = some 0) ∨
        (∃ (e : ResId) (x : Reservation), c = .expiry e ∧ s.res[e] = some x ∧ x.remaining = 0) ∨
        ∃ r : RegionId, c = .probeTimerRunOut r ∧ s.regions[r].probeTimer = some 0))

/-- The state right after power-on reset keeps every condition of Sys2Proof.Machine.State.sound. -/
def Obligations.ResetStateIsSound : Prop := State.reset.sound

/-- Every step keeps the recency lists permutations of their set's four ways (R39). -/
def Obligations.StepKeepsRecencyOrdered : Prop :=
  ∀ s t : State, s.recencyOrdered → step s = .next t → t.recencyOrdered

/-- Every step keeps the drain buffer, the foreign notice FIFO and the event queue within their sizes, and a queue with
the overflow flag set not empty (R69, R116, R190, R192). -/
def Obligations.StepKeepsBuffersWithinCapacity : Prop :=
  ∀ s t : State, s.withinCapacity → step s = .next t → t.withinCapacity

/-- Every step keeps the notice queues sound and empty at PLAIN and DETACHED ports, and every sharer COHERENT and
ATTACHED (R49, R96, R104). -/
def Obligations.StepKeepsSharersAndNoticesCoherent : Prop :=
  ∀ s t : State, s.coherent → step s = .next t → t.coherent

/-- Every step keeps at most one HELD entry for a line and at most two for a port, and every HELD entry naming a line held
CLEAN or DIRTY (R77). It keeps no two ways holding one line (R26), and FILLING ways and BUSY fill slots naming each other,
with every transaction of a slot for the slot's line (R53). -/
def Obligations.StepKeepsReservationLimits : Prop :=
  (∀ s t : State, s.reservationsSound → step s = .next t → t.reservationsSound) ∧
    ∀ s t : State, s.linesSound → step s = .next t → t.linesSound

/-- Every step keeps the parameters in range, the retry counts at most 15, and some port with control permission (R13,
R14, R80, R105, R184). -/
def Obligations.StepKeepsParametersSound : Prop :=
  ∀ s t : State, s.parametersSound → step s = .next t → t.parametersSound

/-- Every step keeps the device operation queue as R134 allows: one operation for a place, and a probe of no region but an
OFFLINE one. A fill slot is BUSY exactly while its read is on the queue, with its transactions placed so at their ports (R6,
R53, R54); a drain entry is QUEUED exactly while its write is on the queue (R69, R70); a port's place is FREE, ACTIVE or
ORPHANED as the queue holds none, its own or an abandoned operation (R145, R148, R149); an OFFLINE region has its probe
timer RUNNING or its probe queued (R157); and a BUSY Device Port presents a transfer of the head's region (R136). -/
def Obligations.StepKeepsDeviceQueueSound : Prop :=
  ∀ s t : State, s.queueSound → step s = .next t → t.queueSound

/-- Every command answers a next state, whatever the state, and leaves the queue of waiting commands as it was: the hub
never stops serving (General Description, 00_scope.md). That a command out of place answers a next state too is the model's
choice (notes/assumptions/2.md), and so is the queue of commands and that no command changes it
(notes/assumptions/1.md). -/
def Obligations.EveryCommandAnswersNext : Prop :=
  ∀ (c : Instr) (s : State), ∃ t : State, exec c s = .next t ∧ t.pending = s.pending

/-- While the power-on reset pin is asserted the hub takes no happening, and no time elapses: a command other than
POWER_ON_RESET changes nothing, but for the level of a port reset line (R195). -/
def Obligations.NothingHappensUnderPowerOnPin : Prop :=
  ∀ (c : Instr) (s : State), s.porPin = true → (∀ b, c ≠ .powerOnReset b) →
    (∀ k, c = .portReset k →
      exec c s = .next { s with ports := setAt s.ports k { s.ports[k] with resetLine := true } }) ∧
    (∀ k, c = .portResetDeassert k →
      exec c s = .next { s with ports := setAt s.ports k { s.ports[k] with resetLine := false } }) ∧
    ((∀ k, c ≠ .portReset k ∧ c ≠ .portResetDeassert k) → exec c s = .next s)

/-- An enabled region keeps its configuration fields: no command but POWER_ON_RESET changes them (R130, R152). -/
def Obligations.EnabledRegionKeepsConfiguration : Prop :=
  ∀ (c : Instr) (s t : State) (n : RegionId), (∀ b, c ≠ .powerOnReset b) → s.regions[n].health ≠ .disabled →
    exec c s = .next t → t.regions[n].cfg = s.regions[n].cfg

/-! ## Master ports and resets -/

/-- An IDLE port whose reset line is not asserted accepts the transaction its master presents: it holds it AT_PORT and
gives its accept handshake; any other port accepts nothing (R5, R6). -/
def Obligations.AcceptancePlacesTransactionAtPort : Prop :=
  ∀ (k : Port) (t : Transaction) (s : State), s.porPin = false →
    (s.ports[k].flight = none → s.ports[k].resetLine = false →
      exec (.acceptance k t) s = .next { s with
        ports := setAt s.ports k { s.ports[k] with flight := some (.atPort t) }
        out := { responses := [], portAccept := some k, foreignAccept := false } }) ∧
    ((s.ports[k].flight ≠ none ∨ s.ports[k].resetLine = true) → exec (.acceptance k t) s = .next s)

/-- Port reset of port `k` makes it IDLE with retry count 0 and its configuration kept, frees its reservations, empties
its notice queue with the timer STOPPED, takes it out of every sharer set, zeroes its event latch, lets a DEFERRED head
and a WAITING sweep that its queue held back go on, and leaves the last-granted port and every other block's state as
they were; no response is given (R22, R50, R94, R113, R125, R174, R191). What becomes of the transaction it abandons is
PortResetAbandonsTransaction. -/
def Obligations.PortResetClearsPort : Prop :=
  ∀ (k : Port) (s : State), s.porPin = false → ∃ t : State, exec (.portReset k) s = .next t ∧
    t = { s with
      ports := setAt s.ports k { s.ports[k] with flight := none, retry := 0, resetLine := true }
      dir := mapAll s.dir fun d => { d with ways := mapAll d.ways fun e => match e with
        | .clean h => .clean { h with sharers := setAt h.sharers k false }
        | .dirty h => .dirty { h with sharers := setAt h.sharers k false }
        | .invalid => .invalid
        | .filling tag r i => .filling tag r i }
      res := mapAll s.res fun x => match x with
        | none => none
        | some y => if y.owner = k then none else some y
      notices := setAt s.notices k { queue := [], timer := none }
      fifo := match s.fifo.deferred with
        | none => s.fifo
        | some S => if s.notices[k].queue ≠ [] ∧ S[k] = true then { s.fifo with deferred := none } else s.fifo
      sweep := match s.sweep.state with
        | .waitingNotice S =>
          if s.notices[k].queue ≠ [] ∧ S[k] = true then { s.sweep with state := .running } else s.sweep
        | _ => s.sweep
      latches := setAt s.latches k 0
      out := outputs []
      slots := t.slots
      dev := t.dev
      events := t.events }

/-- What port reset abandons, by the placement of the transaction: AT_PORT, nothing else changes; a REQUESTER leaves its
slot's requester place vacant and a WAITER leaves the list, the fill running on (R56, R57); a PORT_OP's operation on the
queue loses its owner and the place becomes ORPHANED (R148); a parked operation is discarded, with a WRITE_LOST record of
detail ABANDONED if it is write-through (R149). -/
def Obligations.PortResetAbandonsTransaction : Prop :=
  ∀ (k : Port) (s t : State), s.porPin = false → exec (.portReset k) s = .next t →
    ((s.ports[k].flight = none ∨ ∃ x, s.ports[k].flight = some (.atPort x)) →
      t.slots = s.slots ∧ t.dev = s.dev ∧ t.events = s.events) ∧
    (∀ i f, s.ports[k].flight = some (.requester i) → s.slots[i] = some f →
      t.slots = setAt s.slots i (some { f with requester := none }) ∧ t.dev = s.dev ∧ t.events = s.events) ∧
    (∀ i f, s.ports[k].flight = some (.waiter i) → s.slots[i] = some f →
      t.slots = setAt s.slots i (some { f with waiters := f.waiters.filter fun q => q.port != k }) ∧
        t.dev = s.dev ∧ t.events = s.events) ∧
    (s.ports[k].flight = some .portOp → s.dev.places[k] = .active →
      t.slots = s.slots ∧ t.events = s.events ∧ t.dev.phase = s.dev.phase ∧
        t.dev.places = setAt s.dev.places k (.orphaned none) ∧
        t.dev.queue = s.dev.queue.map fun op =>
          if op.kind = .portRead k ∨ op.kind = .portWrite k true ∨ op.kind = .portWrite k false then
            { op with owner := none } else op) ∧
    ∀ op, s.ports[k].flight = some .portOp → s.dev.places[k] = .orphaned (some op) →
      t.slots = s.slots ∧ t.dev = { s.dev with places := setAt s.dev.places k (.orphaned none) } ∧
        ((∃ j, op.kind = .portWrite j true ∧ t.events = s.events.push (.writeLost .abandoned j op.region op.line)) ∨
          ((∀ j, op.kind ≠ .portWrite j true) ∧ t.events = s.events))

/-- PORT_RESET_DEASSERT lets the port accept again and changes nothing else (R22). POWER_ON_RESET with the pin asserted
gives every block its power-on values; deasserted after it, it leaves them, the hub in CONFIG, with port reset taken at
every port whose reset line is still asserted (R195). The levels of the port reset lines, which are inputs, stay. That the
one row carries both levels of the pin, and that a pin deasserted already changes nothing, is the model's choice
(notes/assumptions/6.md), and so is that the queue of commands (notes/assumptions/1.md) and the model's counter
(notes/assumptions/5.md) stay. -/
def Obligations.ResetLinesAndPinTakeLevels : Prop :=
  (∀ (k : Port) (s : State), s.porPin = false → exec (.portResetDeassert k) s = .next { s with
    ports := setAt s.ports k { s.ports[k] with resetLine := false }, out := outputs [] }) ∧
  (∀ s : State, exec (.powerOnReset true) s = .next { State.reset with
    pending := s.pending, porPin := true, fresh := s.fresh
    ports := Vector.ofFn fun k => { State.reset.ports[k] with resetLine := s.ports[k].resetLine } }) ∧
  (∀ s : State, s.porPin = true → exec (.powerOnReset false) s = .next { State.reset with
    pending := s.pending, fresh := s.fresh
    ports := Vector.ofFn fun k => { State.reset.ports[k] with resetLine := s.ports[k].resetLine } }) ∧
  ∀ s : State, s.porPin = false → exec (.powerOnReset false) s = .next s

/-- After power-on reset: the hub is in CONFIG, every port is IDLE and PLAIN with retry count 0 and event enable off, P0
alone has control permission (R8), the last-granted port is P3 (R16), URGENCY, RES_TIME and NOTICE_TIME are 4, 64 and 50
(R185), every region is DISABLED with the values of R128, every queue is empty (R51, R95, R114, R127, R151, R194), the
sweep is IDLE at position 0 with counts 0 and no aborted indication (R166), and every field of the LINE_QUERY snapshot is
zero (R188). -/
def Obligations.ResetLeavesPowerOnValues : Prop :=
  State.reset.hub = .config ∧ State.reset.lastGranted = 3 ∧ State.reset.urgency = 4 ∧ State.reset.resTime = 64 ∧
  State.reset.noticeTime = 50 ∧
  (∀ k : Port, State.reset.ports[k].flight = none ∧ State.reset.ports[k].retry = 0 ∧
    State.reset.ports[k].mode = .plain ∧ State.reset.ports[k].eventEnable = false ∧
    (State.reset.ports[k].permission = true ↔ k = 0) ∧ State.reset.notices[k] = { queue := [], timer := none } ∧
    State.reset.latches[k] = 0 ∧ State.reset.dev.places[k] = .free) ∧
  (∀ si : SetIdx, State.reset.dir[si].recency = [0, 1, 2, 3] ∧
    ∀ w : WayIdx, State.reset.dir[si].ways[w] = .invalid) ∧
  (∀ i : SlotId, State.reset.slots[i] = none) ∧ State.reset.drains = [] ∧ (∀ i : ResId, State.reset.res[i] = none) ∧
  State.reset.fifo = { lines := [], deferred := none } ∧
  (∀ r : RegionId, State.reset.regions[r] =
    { cfg := { base := 0, limit := 0, width := .w32, cacheable := false, writeThrough := false, readyTimeout := 8,
               threshold := 3, probeInterval := 100, probeOffset := 0 },
      health := .disabled, count := 0, probeTimer := none }) ∧
  State.reset.dev.phase = .idle ∧ State.reset.dev.queue = [] ∧ State.reset.sweep.state = .idle ∧
  State.reset.sweep.command = none ∧ State.reset.sweep.filter = none ∧ State.reset.sweep.issuer = 0 ∧
  State.reset.sweep.set = 0 ∧ State.reset.sweep.way = 0 ∧ State.reset.sweep.writtenBack = 0 ∧
  State.reset.sweep.invalidated = 0 ∧ State.reset.sweep.skipped = 0 ∧ State.reset.sweep.aborted = false ∧
  State.reset.snapshot = { state := .invalid, way := 0, sharers := Vector.replicate 4 false, regionPresent := false,
                           region := 0, reserved := false, owner := 0, word := 0, drains := 0, slot := 0, line := 0 } ∧
  State.reset.events = { records := [], overflow := false }

/-! ## The Intake Arbiter -/

/-- The arbiter grants a port whose transaction is AT_PORT whenever there is one; the granted port is URGENT if any such
port is; and no port of the same class stands before it in the rotating order, which begins after the last-granted port
and ends at it (R14, R15). -/
def Obligations.ArbiterGrantsUrgentFirstInRotation : Prop :=
  ∀ s : State,
    (s.grantedPort = none ↔ ∀ j : Port, ∀ t, s.ports[j].flight ≠ some (.atPort t)) ∧
    ∀ k : Port, s.grantedPort = some k →
      (∃ t, s.ports[k].flight = some (.atPort t) ∧ s.granted = some (k, t)) ∧
      ((∃ j : Port, (∃ t, s.ports[j].flight = some (.atPort t)) ∧ s.urgency.toNat ≤ s.ports[j].retry) →
        s.urgency.toNat ≤ s.ports[k].retry) ∧
      ∀ j : Port, (∃ t, s.ports[j].flight = some (.atPort t)) →
        (s.urgency.toNat ≤ s.ports[k].retry → s.urgency.toNat ≤ s.ports[j].retry) →
        (k - (s.lastGranted + 1)).val ≤ (j - (s.lastGranted + 1)).val

/-! ## Transactions at the Line Directory -/

/-- The intake checks in their order (R17, R19 to R21): outside the window, FAULT NOT_READY in CONFIG; then FAULT SHAPE for
byte enables that are not one of the ten legal shapes; then FAULT UNMAPPED where no enabled region contains the address;
then FAULT ATTR for a reservation kind in a non-cacheable region. Nothing else changes. -/
def Obligations.IntakeChecksAnswerFaultsInOrder : Prop :=
  ∀ (s : State) (k : Port) (t : Transaction), s.takes k t → inWindow t.addr = false →
    (s.hub = .config → exec t.kind.command s = .next (s.answering k (.fault .notReady))) ∧
    (s.hub = .run → t.kind.usesLanes = true → legalShape t.lanes = false →
      exec t.kind.command s = .next (s.answering k (.fault .shape))) ∧
    (s.hub = .run → (t.kind.usesLanes = true → legalShape t.lanes = true) → s.regionAt t.addr = none →
      exec t.kind.command s = .next (s.answering k (.fault .unmapped))) ∧
    ∀ r, s.hub = .run → (t.kind.usesLanes = true → legalShape t.lanes = true) → s.regionAt t.addr = some r →
      t.kind.isReservation = true → s.regions[r].cfg.cacheable = false →
      exec t.kind.command s = .next (s.answering k (.fault .attr))

/-- A READ that hits ends DONE with the addressed word, zero in the lanes it did not enable (R2, R31). A LINE_READ that hits
ends DONE with the eight words in wrap order from its critical word: with KEEP from a COHERENT, ATTACHED port the port joins
the sharer set and the keep flag is KEEP, otherwise the set is unchanged and the flag is NO-KEEP (R3, R4, R32). The way
moves to the front of its recency list and nothing else of the directory changes (R30, R39). -/
def Obligations.ReadHitsReturnData : Prop :=
  ∀ (s : State) (k : Port) (t : Transaction) (r : RegionId) (w : WayIdx) (h : Held),
    s.reaches k t r → s.hits t.line w h →
    (t.kind = .read →
      exec .read s = .next { s.answering k (.done (.word (h.data[t.word] &&& byteMask t.lanes))) with
        dir := s.withFront (setOf t.line) w (s.entry (setOf t.line) w) }) ∧
    (t.kind = .lineRead → t.keep = true → s.ports[k].mode = .coherent true →
      exec .lineRead s = .next
        { s.answering k (.done (.line (Vector.ofFn fun i => h.data[t.word + i]) true)) with
          dir := s.withFront (setOf t.line) w
            ((s.entry (setOf t.line) w).withHeld { h with sharers := setAt h.sharers k true }) }) ∧
    (t.kind = .lineRead → ¬ (t.keep = true ∧ s.ports[k].mode = .coherent true) →
      exec .lineRead s = .next
        { s.answering k (.done (.line (Vector.ofFn fun i => h.data[t.word + i]) false)) with
          dir := s.withFront (setOf t.line) w (s.entry (setOf t.line) w) })

/-- A WRITE or LINE_WRITE that hits a line of a write-back region which no other port reserves, with notice room at every
other sharer, writes its bytes into the line and makes it DIRTY: INVALIDATE goes to every sharer but the writer, the
notified ports leave the sharer set, the way moves to the front, and the answer is DONE (R2, R33, R34). -/
def Obligations.WriteHitMakesLineDirty : Prop :=
  ∀ (s : State) (k : Port) (t : Transaction) (r : RegionId) (w : WayIdx) (h : Held),
    (t.kind = .write ∨ t.kind = .lineWrite) → s.reaches k t r → s.hits t.line w h →
    s.isWriteThrough r = false → (s.reserver t.line = none ∨ s.reserver t.line = some k) →
    s.roomFor (setAt h.sharers k false) t.line →
    exec t.kind.command s = .next { s.answering k (.done .nothing) with
      notices := s.notified .invalidate t.line (setAt h.sharers k false)
      dir := s.withFront (setOf t.line) w (.dirty { h with
        data := if t.kind = .lineWrite then t.ldata
          else setAt h.data t.word (mergeLanes t.lanes h.data[t.word] t.wdata)
        sharers := Vector.ofFn fun j => h.sharers[j] && j == k }) }

/-- A WRITE or LINE_WRITE that hits a line of an ONLINE write-through region which no other port reserves, with notice
room at every other sharer, writes its bytes into the line, which stays CLEAN, with the notices of R34, and makes a port
operation with the write-through field set; the placement becomes PORT_OP and no response is given yet (R35, R145). -/
def Obligations.WriteThroughHitMakesPortOperation : Prop :=
  ∀ (s : State) (k : Port) (t : Transaction) (r : RegionId) (w : WayIdx) (h : Held),
    (t.kind = .write ∨ t.kind = .lineWrite) → s.reaches k t r → s.hits t.line w h →
    s.isWriteThrough r = true → s.isOffline r = false →
    (s.reserver t.line = none ∨ s.reserver t.line = some k) → s.roomFor (setAt h.sharers k false) t.line →
    exec t.kind.command s = .next { s.placing k .portOp with
      notices := s.notified .invalidate t.line (setAt h.sharers k false)
      dir := s.withFront (setOf t.line) w (.clean { h with
        data := if t.kind = .lineWrite then t.ldata
          else setAt h.data t.word (mergeLanes t.lanes h.data[t.word] t.wdata)
        sharers := Vector.ofFn fun j => h.sharers[j] && j == k })
      dev := s.dev.submit s.regions k (Request.portOp { port := k, txn := t, region := r } true) }

/-- A WRITE or LINE_WRITE that hits is refused in the order of R30: RETRY RESERVED on a line another port reserves, then
FAULT OFFLINE in an OFFLINE write-through region, then RETRY NOTICE_FULL where another sharer lacks notice room; nothing
but the port changes (R30, R34, R90). -/
def Obligations.WriteHitRefusedInOrder : Prop :=
  ∀ (s : State) (k : Port) (t : Transaction) (r : RegionId) (w : WayIdx) (h : Held),
    (t.kind = .write ∨ t.kind = .lineWrite) → s.reaches k t r → s.hits t.line w h →
    (∀ j, s.reserver t.line = some j → j ≠ k →
      exec t.kind.command s = .next (s.answering k (.retry .reserved))) ∧
    ((s.reserver t.line = none ∨ s.reserver t.line = some k) → s.isWriteThrough r = true → s.isOffline r = true →
      exec t.kind.command s = .next (s.answering k (.fault .offline))) ∧
    ((s.reserver t.line = none ∨ s.reserver t.line = some k) →
      ¬ (s.isWriteThrough r = true ∧ s.isOffline r = true) → ¬ s.roomFor (setAt h.sharers k false) t.line →
      exec t.kind.command s = .next (s.answering k (.retry .noticeFull)))

/-- A RESERVE_READ that hits: RETRY RESERVED on a line another port reserves; a refresh of the port's own entry, whatever
the limits; else FAULT RES_LIMIT with two entries owned, RETRY RES_FULL with all six HELD, and otherwise a grant of the
lowest-numbered FREE entry. A grant and a refresh set the word index and the present RES_TIME, and return the word as a
READ does (R30, R36, R79, R81, R82). -/
def Obligations.ReserveReadHitGrantsOrRefreshes : Prop :=
  ∀ (s : State) (k : Port) (t : Transaction) (r : RegionId) (w : WayIdx) (h : Held),
    t.kind = .reserveRead → s.reaches k t r → s.hits t.line w h →
    (∀ j, s.reserver t.line = some j → j ≠ k →
      exec .reserveRead s = .next (s.answering k (.retry .reserved))) ∧
    (∀ i, s.reserver t.line = some k → s.resOf t.line = some i →
      exec .reserveRead s = .next { s.answering k (.done (.word (h.data[t.word] &&& byteMask t.lanes))) with
        dir := s.withFront (setOf t.line) w (s.entry (setOf t.line) w)
        res := setAt s.res i (some { owner := k, line := t.line, word := t.word, remaining := s.resTime.toNat }) }) ∧
    (s.reserver t.line = none → 2 ≤ s.owned k →
      exec .reserveRead s = .next (s.answering k (.fault .resLimit))) ∧
    (s.reserver t.line = none → s.owned k < 2 → (∀ i : ResId, s.res[i] ≠ none) →
      exec .reserveRead s = .next (s.answering k (.retry .resFull))) ∧
    ∀ i : ResId, s.reserver t.line = none → s.owned k < 2 → s.res[i] = none →
      (∀ j : ResId, j < i → s.res[j] ≠ none) →
      exec .reserveRead s = .next { s.answering k (.done (.word (h.data[t.word] &&& byteMask t.lanes))) with
        dir := s.withFront (setOf t.line) w (s.entry (setOf t.line) w)
        res := setAt s.res i (some { owner := k, line := t.line, word := t.word, remaining := s.resTime.toNat }) }

/-- A RELEASE_WRITE that hits: LATE where its port does not hold the line's reservation; FAULT OFFLINE and RETRY
NOTICE_FULL with nothing written and the entry HELD; otherwise the write of R33 or R35 is performed and the line's entry
becomes FREE in the same happening (R30, R37, R87). -/
def Obligations.ReleaseWriteHitWritesAndFrees : Prop :=
  ∀ (s : State) (k : Port) (t : Transaction) (r : RegionId) (w : WayIdx) (h : Held),
    t.kind = .releaseWrite → s.reaches k t r → s.hits t.line w h →
    (s.reserver t.line ≠ some k → exec .releaseWrite s = .next (s.answering k .late)) ∧
    (s.reserver t.line = some k → s.isWriteThrough r = true → s.isOffline r = true →
      exec .releaseWrite s = .next (s.answering k (.fault .offline))) ∧
    (s.reserver t.line = some k → ¬ (s.isWriteThrough r = true ∧ s.isOffline r = true) →
      ¬ s.roomFor (setAt h.sharers k false) t.line →
      exec .releaseWrite s = .next (s.answering k (.retry .noticeFull))) ∧
    (s.reserver t.line = some k → s.isWriteThrough r = false → s.roomFor (setAt h.sharers k false) t.line →
      exec .releaseWrite s = .next { s.answering k (.done .nothing) with
        notices := s.notified .invalidate t.line (setAt h.sharers k false)
        res := mapAll s.res fun x => if reserves t.line x then none else x
        dir := s.withFront (setOf t.line) w (.dirty { h with
          data := setAt h.data t.word (mergeLanes t.lanes h.data[t.word] t.wdata)
          sharers := Vector.ofFn fun j => h.sharers[j] && j == k }) }) ∧
    (s.reserver t.line = some k → s.isWriteThrough r = true → s.isOffline r = false →
      s.roomFor (setAt h.sharers k false) t.line →
      exec .releaseWrite s = .next { s.placing k .portOp with
        notices := s.notified .invalidate t.line (setAt h.sharers k false)
        res := mapAll s.res fun x => if reserves t.line x then none else x
        dir := s.withFront (setOf t.line) w (.clean { h with
          data := setAt h.data t.word (mergeLanes t.lanes h.data[t.word] t.wdata)
          sharers := Vector.ofFn fun j => h.sharers[j] && j == k })
        dev := s.dev.submit s.regions k (Request.portOp { port := k, txn := t, region := r } true) })

/-- A RELEASE by the port that holds the line's reservation frees the entry with DONE and moves the way to the front, the
line unchanged; any other RELEASE that hits is LATE (R37, R88). A RELEASE or RELEASE_WRITE whose line misses is LATE
(R29). LATE changes nothing but the port. -/
def Obligations.ReleaseFreesOrIsLate : Prop :=
  (∀ (s : State) (k : Port) (t : Transaction) (r : RegionId) (w : WayIdx) (h : Held),
    t.kind = .release → s.reaches k t r → s.hits t.line w h →
    (s.reserver t.line = some k →
      exec .release s = .next { s.answering k (.done .nothing) with
        res := mapAll s.res fun x => if reserves t.line x then none else x
        dir := s.withFront (setOf t.line) w (s.entry (setOf t.line) w) }) ∧
    (s.reserver t.line ≠ some k → exec .release s = .next (s.answering k .late))) ∧
  ∀ (s : State) (k : Port) (t : Transaction) (r : RegionId),
    (t.kind = .release ∨ t.kind = .releaseWrite) → s.reaches k t r → s.lookup t.line = none →
    exec t.kind.command s = .next (s.answering k .late)

/-- A transaction of any kind whose line is FILLING joins the fill: a transaction of the slot's allocating port takes the
vacant requester place, any other joins the tail of the waiter list; nothing else changes and no response is given (R28,
R55). -/
def Obligations.FillingLineIsJoined : Prop :=
  ∀ (s : State) (k : Port) (t : Transaction) (r r' : RegionId) (w : WayIdx) (tag : Tag) (i : SlotId) (f : Fill),
    s.reaches k t r → s.lookup t.line = some w → s.entry (setOf t.line) w = .filling tag r' i →
    s.slots[i] = some f →
    ((f.allocPort = k ∧ f.requester = none) →
      exec t.kind.command s = .next { s.placing k (.requester i) with
        slots := setAt s.slots i (some { f with requester := some { port := k, txn := t, region := r } }) }) ∧
    (¬ (f.allocPort = k ∧ f.requester = none) →
      exec t.kind.command s = .next { s.placing k (.waiter i) with
        slots := setAt s.slots i (some { f with waiters := f.waiters ++ [{ port := k, txn := t, region := r }] }) })

/-- The checks of the miss path before victim choice, in their order: RETRY LINE_BUSY while a drain entry names the line,
FAULT OFFLINE in an OFFLINE region, then for a RESERVE_READ the limits, and RETRY FILL_FULL where no fill slot is FREE,
for every kind but LINE_WRITE. None changes anything but the port (R41, R42, R43, R154). -/
def Obligations.MissRefusedInOrder : Prop :=
  ∀ (s : State) (k : Port) (t : Transaction) (r : RegionId),
    t.kind.isRelease = false → s.reaches k t r → s.lookup t.line = none →
    ((∃ e ∈ s.drains, e.line = t.line) →
      exec t.kind.command s = .next (s.answering k (.retry .lineBusy))) ∧
    ((∀ e ∈ s.drains, e.line ≠ t.line) → s.isOffline r = true →
      exec t.kind.command s = .next (s.answering k (.fault .offline))) ∧
    ((∀ e ∈ s.drains, e.line ≠ t.line) → s.isOffline r = false → t.kind = .reserveRead → 2 ≤ s.owned k →
      exec .reserveRead s = .next (s.answering k (.fault .resLimit))) ∧
    ((∀ e ∈ s.drains, e.line ≠ t.line) → s.isOffline r = false → t.kind = .reserveRead → s.owned k < 2 →
      (∀ i : ResId, s.res[i] ≠ none) → exec .reserveRead s = .next (s.answering k (.retry .resFull))) ∧
    ((∀ e ∈ s.drains, e.line ≠ t.line) → s.isOffline r = false →
      s.missBypasses { port := k, txn := t, region := r } = false →
      (t.kind = .reserveRead → s.owned k < 2 ∧ ∃ i : ResId, s.res[i] = none) → t.kind ≠ .lineWrite →
      (∀ i : SlotId, s.slots[i] ≠ none) → exec t.kind.command s = .next (s.answering k (.retry .fillFull)))

/-- A miss that does not allocate becomes a port operation: a READ, WRITE, LINE_READ or LINE_WRITE in a non-cacheable
region, a READ, WRITE or LINE_READ with NO_ALLOCATE, and a WRITE or LINE_WRITE in a write-through region. The operation
is submitted with the write-through field clear, and the placement becomes PORT_OP with no response (R42, R145). -/
def Obligations.MissThatDoesNotAllocateMakesPortOperation : Prop :=
  ∀ (s : State) (k : Port) (t : Transaction) (r : RegionId),
    t.kind.isReservation = false → s.reaches k t r → s.lookup t.line = none →
    (∀ e ∈ s.drains, e.line ≠ t.line) → s.isOffline r = false →
    (s.regions[r].cfg.cacheable = false ∨ (t.noAllocate = true ∧ t.kind ≠ .lineWrite) ∨
      ((t.kind = .write ∨ t.kind = .lineWrite) ∧ s.isWriteThrough r = true)) →
    exec t.kind.command s = .next { s.placing k .portOp with
      dev := s.dev.submit s.regions k (Request.portOp { port := k, txn := t, region := r } false) }

/-- A port operation joins the tail of the device operation queue with its place ACTIVE while the port's place is FREE, and
is parked off the queue while the place is ORPHANED (R145, R149); an IDLE Device Port turns to the head (R136). It is
shaped from its transaction: a READ and a WRITE move the enabled lanes of one word, a LINE_READ the line in wrap order from
its critical word, and a LINE_WRITE the line in ascending order (R145). -/
def Obligations.PortOperationJoinsQueueOrIsParked : Prop :=
  (∀ (d : DevicePort) (regions : Vector Region 8) (k : Port) (op : Operation),
    (d.places[k] = .free → d.phase = .idle → d.submit regions k op =
      { queue := d.queue ++ [op], places := setAt d.places k .active,
        phase := presentHead regions (d.queue ++ [op]) }) ∧
    (d.places[k] = .free → d.phase ≠ .idle → d.submit regions k op =
      { queue := d.queue ++ [op], places := setAt d.places k .active, phase := d.phase }) ∧
    (∀ parked, d.places[k] = .orphaned parked → d.submit regions k op =
      { d with places := setAt d.places k (.orphaned (some op)) })) ∧
  ∀ (q : Request) (wt : Bool),
    (q.portOp wt).region = q.region ∧ (q.portOp wt).line = q.txn.line ∧ (q.portOp wt).owner = some q.port ∧
    (q.txn.kind = .read → (q.portOp wt).kind = .portRead q.port ∧
      (q.portOp wt).extent = .word q.txn.word q.txn.lanes) ∧
    (q.txn.kind = .lineRead → (q.portOp wt).kind = .portRead q.port ∧ (q.portOp wt).extent = .line q.txn.word) ∧
    ((q.txn.kind = .write ∨ q.txn.kind = .releaseWrite) → (q.portOp wt).kind = .portWrite q.port wt ∧
      (q.portOp wt).extent = .word q.txn.word q.txn.lanes ∧ (q.portOp wt).data[q.txn.word] = q.txn.wdata) ∧
    (q.txn.kind = .lineWrite → (q.portOp wt).kind = .portWrite q.port wt ∧ (q.portOp wt).extent = .line 0 ∧
      (q.portOp wt).data = q.txn.ldata)

/-- Victim choice reads the recency list from the back: the victim is the INVALID way nearest the back if there is one,
and else the way nearest the back that is CLEAN or DIRTY, not reserved, and not DIRTY in an OFFLINE region; there is none
exactly when no way of the list is either (R44, R91). -/
def Obligations.VictimIsNearestBackOfRecencyList : Prop :=
  ∀ (s : State) (si : SetIdx),
    let free := fun w => s.entry si w = .invalid
    let takable := fun w => ∃ h, (s.entry si w).held? = some h ∧
      (∀ i : ResId, reserves (lineAt h.tag si) s.res[i] = false) ∧
      ¬ ((s.entry si w).isDirty = true ∧ s.regions[h.region].health = .offline)
    (s.victim si = none ↔ ∀ w ∈ s.dir[si].recency, ¬ free w ∧ ¬ takable w) ∧
    ∀ w, s.victim si = some w → ∃ front back, s.dir[si].recency = front ++ w :: back ∧
      ((free w ∧ ∀ b ∈ back, ¬ free b) ∨
        ((∀ x ∈ s.dir[si].recency, ¬ free x) ∧ takable w ∧ ∀ b ∈ back, ¬ takable b))

/-- Step 12 answers a miss, in this order: RETRY SET_BUSY with no victim, RETRY DRAIN_FULL for a DIRTY victim with both
drain entries in use, RETRY NOTICE_FULL where a sharer of the victim lacks notice room; it goes on to no other way and
changes nothing but the port (R45). -/
def Obligations.VictimRefusedInOrder : Prop :=
  ∀ (s : State) (k : Port) (t : Transaction) (r : RegionId), s.missAdmitted k t r →
    (t.kind = .lineWrite ∨ ∃ i : SlotId, s.slots[i] = none) →
    (s.victim (setOf t.line) = none → exec t.kind.command s = .next (s.answering k (.retry .setBusy))) ∧
    ∀ w h, s.victim (setOf t.line) = some w → (s.entry (setOf t.line) w).held? = some h →
      ((s.entry (setOf t.line) w).isDirty = true → 2 ≤ s.drains.length →
        exec t.kind.command s = .next (s.answering k (.retry .drainFull))) ∧
      (¬ ((s.entry (setOf t.line) w).isDirty = true ∧ 2 ≤ s.drains.length) →
        ¬ s.roomFor h.sharers (lineAt h.tag (setOf t.line)) →
        exec t.kind.command s = .next (s.answering k (.retry .noticeFull)))

/-- A miss that allocates takes the victim way: a DIRTY victim's line goes to an EVICT entry at the tail of the drain
buffer, QUEUED, its write on the queue; every sharer of the victim is sent a REVOKE; the way moves to the front of the
recency list. A LINE_WRITE installs its eight words DIRTY with no sharer and ends DONE (R46, R47, R68). Every other kind
makes the way FILLING with the lowest-numbered FREE fill slot, whose read, in wrap order from the critical word, joins the
tail of the queue, and becomes REQUESTER (R46, R48, R54). A sweep that waits at the way goes on (R174). The number of the
EVICT entry's queue place, freeDrainPlace, is the model's choice (notes/assumptions/14.md). -/
def Obligations.MissAllocatesVictimWay : Prop :=
  ∀ (s : State) (k : Port) (t : Transaction) (r : RegionId) (w : WayIdx), s.missAdmitted k t r →
    s.victim (setOf t.line) = some w →
    ∀ (drains : List DrainEntry) (dev : DevicePort) (notices : Vector NoticeQueue 4),
    ((s.entry (setOf t.line) w = .invalid ∧ drains = s.drains ∧ dev = s.dev ∧ notices = s.notices) ∨
      (∃ h, s.entry (setOf t.line) w = .clean h ∧ s.roomFor h.sharers (lineAt h.tag (setOf t.line)) ∧
        drains = s.drains ∧ dev = s.dev ∧ notices = s.notified .revoke (lineAt h.tag (setOf t.line)) h.sharers) ∨
      (∃ h p, s.entry (setOf t.line) w = .dirty h ∧ s.roomFor h.sharers (lineAt h.tag (setOf t.line)) ∧
        s.drains.length < 2 ∧ p = freeDrainPlace s.drains ∧
        drains = s.drains ++ [{ place := p, line := lineAt h.tag (setOf t.line), data := h.data, region := h.region,
                                kind := .evict, held := false }] ∧
        dev = s.dev.join s.regions { kind := .drain p, region := h.region, line := lineAt h.tag (setOf t.line),
                                     extent := .line 0, data := h.data, owner := none } ∧
        notices = s.notified .revoke (lineAt h.tag (setOf t.line)) h.sharers)) →
    (t.kind = .lineWrite → exec .lineWrite s = .next { s.answering k (.done .nothing) with
      drains := drains
      dev := dev
      notices := notices
      sweep := s.sweep.wayChanged (setOf t.line) w
      dir := s.withFront (setOf t.line) w (.dirty
        { tag := tagOf t.line, region := r, data := t.ldata, sharers := Vector.replicate 4 false }) }) ∧
    ∀ i : SlotId, t.kind ≠ .lineWrite → s.slots[i] = none → (∀ j : SlotId, j < i → s.slots[j] ≠ none) →
      exec t.kind.command s = .next { s.placing k (.requester i) with
        drains := drains
        notices := notices
        sweep := s.sweep.wayChanged (setOf t.line) w
        dir := s.withFront (setOf t.line) w (.filling (tagOf t.line) r i)
        slots := setAt s.slots i (some
          { line := t.line, way := w, region := r, allocPort := k, critical := t.word, waiters := [], tainted := false,
            received := [], requester := some { port := k, txn := t, region := r } })
        dev := dev.join s.regions { kind := .fill i, region := r, line := t.line, extent := .line t.word,
                                    data := Vector.replicate 8 0, owner := none } }
/-! ## The Device Port -/

/-- An ACK of a transfer of the head that is not its last returns the count of the transfer's region to 0 and presents the
next transfer with its region's ready timeout (R136, R139, R140). The transfer that ends a word adds it to the fill slot's
received words for a FILL, and to the words kept for a PORT_READ or PROBE; a read places the bytes of the lanes moved in
the word, and a write is accepted (R137, R140). -/
def Obligations.AckRecordsTransferAndPresentsNext : Prop :=
  ∀ (data : Word) (s : State) (op : Operation) (q : List Operation) (now next : Transfer) (timer : Nat)
    (rest : List Transfer) (gathered : Word) (kept : List Word),
    s.underWay op q now timer (next :: rest) gathered kept →
    let time := s.regions[next.region].cfg.readyTimeout.toNat
    let word := gathered ||| (data &&& byteMask now.lanes)
    (now.endsWord = false → op.kind.isWrite = false → exec (.ack data) s = .next { s with
      out := outputs []
      regions := s.withCount now.region 0
      dev := { s.dev with phase := .busy next time rest word kept } }) ∧
    (now.endsWord = false → op.kind.isWrite = true → exec (.ack data) s = .next { s with
      out := outputs []
      regions := s.withCount now.region 0
      dev := { s.dev with phase := .busy next time rest 0 kept } }) ∧
    (now.endsWord = true → op.kind.isWrite = true → exec (.ack data) s = .next { s with
      out := outputs []
      regions := s.withCount now.region 0
      dev := { s.dev with phase := .busy next time rest 0 kept } }) ∧
    (now.endsWord = true → (op.kind = .probe ∨ ∃ k, op.kind = .portRead k) → exec (.ack data) s = .next { s with
      out := outputs []
      regions := s.withCount now.region 0
      dev := { s.dev with phase := .busy next time rest 0 (kept ++ [word]) } }) ∧
    ∀ i f, now.endsWord = true → op.kind = .fill i → s.slots[i] = some f → exec (.ack data) s = .next { s with
      out := outputs []
      regions := s.withCount now.region 0
      slots := setAt s.slots i (some { f with received := f.received ++ [word] })
      dev := { s.dev with phase := .busy next time rest 0 kept } }

/-- The ACK of the last transfer of a drain, a port operation or a probe ends it with success: a drain entry leaves the
buffer (R72); a port operation answers its owner DONE, with the word or the line in wrap order and NO-KEEP for a read, and
its place is released (R146, R148, R149); a probe returns its region to ONLINE with count 0, the timer STOPPED, its HELD
drains QUEUED again oldest first, and a REGION_ONLINE record (R159). The count becomes 0 and the Device Port turns to the
next head (R136, R140). -/
def Obligations.AckEndsDrainPortOperationOrProbe : Prop :=
  ∀ (data : Word) (s : State) (op : Operation) (q : List Operation) (now : Transfer) (timer : Nat) (gathered : Word)
    (kept : List Word), s.underWay op q now timer [] gathered kept →
    let regions := s.withCount now.region 0
    let word := gathered ||| (data &&& byteMask now.lanes)
    (∀ p, op.kind = .drain p → exec (.ack data) s = .next { s with
      out := outputs []
      regions := regions
      drains := s.drains.filter fun e => e.place != p
      sweep := s.sweep.drainLeft
      dev := s.dev.turnTo regions q }) ∧
    (∀ k wt, op.kind = .portWrite k wt → exec (.ack data) s = .next
      { s.withAnswers (ownerAnswer op (.done .nothing)) with
        regions := regions
        dev := s.dev.afterOwn regions k q }) ∧
    (∀ k i m, op.kind = .portRead k → op.extent = .word i m → kept = [] → exec (.ack data) s = .next
      { s.withAnswers (ownerAnswer op (.done (.word word))) with
        regions := regions
        dev := s.dev.afterOwn regions k q }) ∧
    (∀ k c, op.kind = .portRead k → op.extent = .line c → exec (.ack data) s = .next
      { s.withAnswers (ownerAnswer op (.done (.line (lineOfWords (kept ++ [word])) false))) with
        regions := regions
        dev := s.dev.afterOwn regions k q }) ∧
    (op.kind = .probe →
      let up := setAt regions op.region
        { s.regions[op.region] with health := .online, count := 0, probeTimer := none }
      exec (.ack data) s = .next { s with
        out := outputs []
        regions := up
        drains := s.drains.map fun e => if e.region = op.region then { e with held := false } else e
        events := s.events.push (.regionOnlineProbe op.region)
        dev := s.dev.turnTo up
          (q ++ (s.drains.filter fun e => e.held && e.region == op.region).map DrainEntry.op) })

/-- The ACK of the last transfer of a FILL completes the fill. Without taint the way becomes CLEAN with the received words
by word index and no sharer, and the requester and then each waiter are served against it, each by the hit rules as the
earlier services leave the line; the slot becomes FREE (R59). Hit service there is the hit service at lookup (R30, R60,
R61). With taint each is answered by its kind, nothing is installed, the way becomes INVALID at the back of its recency
list, and the slot becomes FREE (R64). -/
def Obligations.AckCompletesFill : Prop :=
  (∀ (data : Word) (s : State) (op : Operation) (q : List Operation) (now : Transfer) (timer : Nat) (gathered : Word)
    (kept : List Word) (i : SlotId) (f : Fill), s.underWay op q now timer [] gathered kept → op.kind = .fill i →
    s.slots[i] = some f →
    let regions := s.withCount now.region 0
    let words := f.received ++ [gathered ||| (data &&& byteMask now.lanes)]
    let got : Line := Vector.ofFn fun j => (words[(j - f.critical).val]?).getD 0
    (f.tainted = false →
      let start : State := { s with
        out := outputs []
        regions := regions
        slots := setAt s.slots i (some { f with received := words })
        dev := { s.dev with queue := q, phase := .idle }
        dir := setAt s.dir (setOf f.line) { s.dir[setOf f.line] with
          ways := setAt s.dir[setOf f.line].ways f.way
            (.clean { tag := tagOf f.line, region := f.region, sharers := Vector.replicate 4 false, data := got }) } }
      let served := (f.requester.toList ++ f.waiters).foldl (fun x r => x.serve r f.way) start
      exec (.ack data) s = .next { served with
        slots := setAt served.slots i none
        dev := served.dev.kick served.regions }) ∧
    (f.tainted = true → exec (.ack data) s = .next
      { s.withAnswers ((f.requester.toList ++ f.waiters).map fun r => (r.port, r.taintedAnswer got)) with
        regions := regions
        slots := setAt s.slots i none
        dir := s.withInvalid (setOf f.line) f.way
        sweep := s.sweep.wayChanged (setOf f.line) f.way
        dev := s.dev.turnTo regions q })) ∧
  (∀ (s : State) (k : Port) (t : Transaction) (r : RegionId) (w : WayIdx) (h : Held),
    s.reaches k t r → s.hits t.line w h →
    exec t.kind.command s = .next ((s.taken k).serve { port := k, txn := t, region := r } w)) ∧
  ∀ (r : Request) (d : Line),
    (r.txn.kind = .read → r.taintedAnswer d = .done (.word (d[r.txn.word] &&& byteMask r.txn.lanes))) ∧
    (r.txn.kind = .lineRead →
      r.taintedAnswer d = .done (.line (Vector.ofFn fun j => d[r.txn.word + j]) false)) ∧
    ((r.txn.kind = .write ∨ r.txn.kind = .lineWrite ∨ r.txn.kind = .reserveRead) →
      r.taintedAnswer d = .retry .lineBusy) ∧
    ((r.txn.kind = .releaseWrite ∨ r.txn.kind = .release) → r.taintedAnswer d = .late)

/-- An ERR, with ACK beside it or not, ends the head failed and returns the count of the transfer's region to 0 (R141,
R196). A FILL answers FAULT DEVICE to its requester and waiters, and its way becomes INVALID (R65). A drain entry leaves
the buffer with a DRAIN_LOST record (R73). A port operation answers its owner FAULT DEVICE and is released, with a
WRITE_LOST record of detail DEVICE if it is write-through (R147, R148). A probe restarts its region's probe timer (R160).
The Device Port turns to the next head. -/
def Obligations.ErrEndsOperation : Prop :=
  ∀ (withAck : Bool) (s : State) (op : Operation) (q : List Operation) (now : Transfer) (timer : Nat)
    (rest : List Transfer) (gathered : Word) (kept : List Word), s.underWay op q now timer rest gathered kept →
    let regions := s.withCount now.region 0
    (∀ i f, op.kind = .fill i → s.slots[i] = some f → exec (.err withAck) s = .next
      { s.withAnswers (answersTo (f.requester.toList ++ f.waiters) (.fault .device)) with
        regions := regions
        slots := setAt s.slots i none
        dir := s.withInvalid (setOf f.line) f.way
        sweep := s.sweep.wayChanged (setOf f.line) f.way
        dev := s.dev.turnTo regions q }) ∧
    (∀ p e, op.kind = .drain p → s.drainAt p = some e → exec (.err withAck) s = .next { s with
      out := outputs []
      regions := regions
      drains := s.drains.filter fun x => x.place != p
      sweep := s.sweep.drainLeft
      events := s.events.push (.drainLost e.kind e.region e.line)
      dev := s.dev.turnTo regions q }) ∧
    (∀ k, op.isOfPort k →
      exec (.err withAck) s = .next { s.withAnswers (ownerAnswer op (.fault .device)) with
        regions := regions
        events := if op.kind = .portWrite k true then s.events.push (.writeLost .device k op.region op.line)
          else s.events
        dev := s.dev.afterOwn regions k q }) ∧
    (op.kind = .probe →
      let again := setAt regions op.region { regions[op.region] with
        probeTimer := some (s.regions[op.region].cfg.probeInterval.toNat * 10) }
      exec (.err withAck) s = .next { s with
        out := outputs []
        regions := again
        dev := s.dev.turnTo again q })

/-- A ready timeout that does not take its region OFFLINE counts one more consecutive timeout, not above the threshold, and
ends the head failed (R142): a FILL and a port operation as by ERR (R65, R147); a drain whose line a younger entry names
leaves the buffer without a record, and any other goes to the tail of the queue, still QUEUED (R74); a probe restarts the
probe timer (R160). The timer is the first to run out (R197); that the command itself lets the time left on it elapse for
every timer, and does nothing while another timer has less left, is the model's choice (notes/assumptions/2.md and
3.md). -/
def Obligations.ReadyTimeoutBelowThresholdEndsOperation : Prop :=
  ∀ (s : State) (op : Operation) (q : List Operation) (now : Transfer) (timer : Nat) (rest : List Transfer)
    (gathered : Word) (kept : List Word), s.underWay op q now timer rest gathered kept →
    (¬ s.noneSooner timer → exec .readyTimeout s = .next s) ∧
    let u := s.elapse timer
    let n := min (s.regions[now.region].count + 1) s.regions[now.region].cfg.threshold.toNat
    let regions := u.withCount now.region n
    (s.noneSooner timer → ¬ (s.regions[now.region].health = .online ∧ n = s.regions[now.region].cfg.threshold.toNat) →
    (∀ i f, op.kind = .fill i → s.slots[i] = some f → exec .readyTimeout s = .next
      { u.withAnswers (answersTo (f.requester.toList ++ f.waiters) (.fault .device)) with
        regions := regions
        slots := setAt s.slots i none
        dir := s.withInvalid (setOf f.line) f.way
        sweep := s.sweep.wayChanged (setOf f.line) f.way
        dev := u.dev.turnTo regions q }) ∧
    (∀ p older e younger, op.kind = .drain p → s.drains = older ++ e :: younger → e.place = p →
      (∀ x ∈ older, x.place ≠ p) →
      ((∃ y ∈ younger, y.line = op.line) → exec .readyTimeout s = .next { u with
        out := outputs []
        regions := regions
        drains := s.drains.filter fun x => x.place != p
        sweep := s.sweep.drainLeft
        dev := u.dev.turnTo regions q }) ∧
      ((∀ y ∈ younger, y.line ≠ op.line) → exec .readyTimeout s = .next { u with
        out := outputs []
        regions := regions
        dev := u.dev.turnTo regions (q ++ [op]) })) ∧
    (∀ k, op.isOfPort k →
      exec .readyTimeout s = .next { u.withAnswers (ownerAnswer op (.fault .device)) with
        regions := regions
        events := if op.kind = .portWrite k true then s.events.push (.writeLost .device k op.region op.line)
          else s.events
        dev := u.dev.afterOwn regions k q }) ∧
    (op.kind = .probe →
      let again := setAt regions op.region { regions[op.region] with
        probeTimer := some (s.regions[op.region].cfg.probeInterval.toNat * 10) }
      exec .readyTimeout s = .next { u with
        out := outputs []
        regions := again
        dev := u.dev.turnTo again q }))

/-- A ready timeout that brings an ONLINE region's count to its threshold takes the region OFFLINE, and FORCE_OFFLINE takes
an ONLINE one at once, its count kept, answering DONE (R142, R153, R163). State.handedOn says what becomes of the region's
work (R144, R147, R149): at a timeout the operation that timed out ends first, with cause DEVICE, but a superseded drain
leaves the buffer without a record (R74). The probe timer starts, REGION_OFFLINE with detail TIMEOUT and the line, or
FORCED and the port, follows the other records, and nothing else changes. The Device Port turns to the first operation left,
or holds a stopped head's transfer as an orphan (R136, R144). FORCE_OFFLINE has no effect on an OFFLINE region and is
answered FAULT CONTROL for a DISABLED one (R163). The queue's places are distinct and an ONLINE region has no probe
(StepKeepsDeviceQueueSound). The order of the responses of one FORCE_OFFLINE (notes/assumptions/7.md) and the time that
READY_TIMEOUT lets elapse (notes/assumptions/3.md) are the model's choices; the order is left open here. The order in which FORCE_OFFLINE hands the work on, and in which parked operations of
other regions join the tail, is the model's choice too (notes/assumptions/18.md). -/
def Obligations.RegionGoingOfflineHandsOnItsWork : Prop :=
  (∀ (s : State) (op : Operation) (q : List Operation) (now : Transfer) (timer : Nat) (rest : List Transfer)
    (gathered : Word) (kept : List Word), s.underWay op q now timer rest gathered kept → s.noneSooner timer →
    s.placesDistinct → op.kind ≠ .probe →
    let r := now.region
    let u := s.elapse timer
    s.regions[r].health = .online → s.regions[r].cfg.threshold.toNat ≤ s.regions[r].count + 1 →
    let regions := setAt u.regions r { u.regions[r] with
      health := .offline, count := s.regions[r].cfg.threshold.toNat,
      probeTimer := some (s.regions[r].cfg.probeInterval.toNat * 10) }
    let gone := fun (x : State) => { x with
      regions := regions
      events := x.events.push (.regionOfflineTimeout r op.line)
      dev := x.dev.turnTo regions x.dev.queue }
    (¬ s.supersedes op → exec .readyTimeout s = .next (gone (u.handedOn r (some op) q))) ∧
    (s.supersedes op → exec .readyTimeout s = .next (gone (State.handedOn { u with
      drains := s.drains.filter fun e => op.kind != .drain e.place
      sweep := s.sweep.drainLeft } r none q)))) ∧
  ∀ (s : State) (k : Port) (v : Word) (r : RegionId), s.writes k .regionCmd v → r.val = (v.extractLsb' 0 3).toNat →
    v.extractLsb' 8 3 = 5 →
    (s.regions[r].health = .disabled → exec .forceOffline s = .next (s.answering k (.fault .control))) ∧
    (s.regions[r].health = .offline → exec .forceOffline s = .next (s.answering k (.done .nothing))) ∧
    (s.regions[r].health = .online → s.placesDistinct →
      let x := s.handedOn r none s.dev.queue
      let regions := setAt s.regions r { s.regions[r] with
        health := .offline, probeTimer := some (s.regions[r].cfg.probeInterval.toNat * 10) }
      let phase := match s.dev.phase, s.dev.queue with
        | .busy now timer rest gathered kept, op :: _ =>
          if op.region = r then .clearing now timer else .busy now timer rest gathered kept
        | .busy now timer rest gathered kept, [] => .busy now timer rest gathered kept
        | .clearing orphan timer, _ => .clearing orphan timer
        | .idle, _ => presentHead regions x.dev.queue
      ∃ rs : List (Port × Response), rs.Perm ((k, .done .nothing) :: x.out.responses) ∧
        exec .forceOffline s = .next { x with
          lastGranted := k
          ports := setAt x.ports k (x.ports[k].idleAfter (.done .nothing))
          regions := regions
          events := x.events.push (.regionOfflineForced r k)
          dev := { x.dev with phase := phase }
          out := outputs rs })

/-- The answer to an orphan transfer, and its timeout, change no count, no data and no record: the transfer leaves the bus
and the Device Port turns to the head (R136). An answer given while no transfer is presented is not taken, and an answer
that asserts both ACK and ERR is taken as ERR (R196). That READY_TIMEOUT lets the time left elapse for every timer
(notes/assumptions/3.md), and leaves the state on an IDLE Device Port and while another timer has less left
(notes/assumptions/2.md and 3.md), is the model's choice. -/
def Obligations.OrphanAnswersAreDiscarded : Prop :=
  (∀ (data : Word) (withAck : Bool) (s : State) (orphan : Transfer) (timer : Nat), s.porPin = false →
    s.dev.phase = .clearing orphan timer →
    exec (.ack data) s = .next { s with out := outputs [], dev := s.dev.turnTo s.regions s.dev.queue } ∧
    exec (.err withAck) s = .next { s with out := outputs [], dev := s.dev.turnTo s.regions s.dev.queue } ∧
    (s.noneSooner timer → exec .readyTimeout s = .next { s.elapse timer with
      out := outputs []
      dev := s.dev.turnTo (s.elapse timer).regions s.dev.queue }) ∧
    (¬ s.noneSooner timer → exec .readyTimeout s = .next s)) ∧
  (∀ (data : Word) (withAck : Bool) (s : State), s.dev.phase = .idle →
    exec (.ack data) s = .next s ∧ exec (.err withAck) s = .next s ∧ exec .readyTimeout s = .next s) ∧
  ∀ s : State, exec (.err true) s = exec (.err false) s

/-- The transfers of an operation at each width (R137, R138): of a word, only the units that hold a needed lane, the lower
unit first, each at its unit's address with the lanes it moves, and the last alone ends the word; of a line, the words in
wrap order from its starting word, every lane of each, 8, 16 or 32 transfers in all. A write's transfer carries the bytes
of its lanes; that the stored data is zero in every other lane, and in a read, is the model's form, as R137 gives no value
there (notes/assumptions/17.md). The device bus shows the transfer presented, and none in IDLE or under the power-on reset
pin (R136, R195). Its write data lanes carry a write's bytes in the strobed lanes (R137, R196); the other lanes are the
model's free value (notes/assumptions/17.md). -/
def Obligations.TransfersFollowDeviceWidth : Prop :=
  (∀ (op : Operation) (i : WordIdx) (m : Lanes) (w : Width), op.extent = .word i m →
    (∀ x ∈ op.transfers w, x.region = op.region ∧ x.write = op.kind.isWrite ∧
      x.data = if op.kind.isWrite then op.data[i] &&& byteMask x.lanes else 0) ∧
    (m ≠ 0 → ∃ n, (op.transfers w).map (·.endsWord) = List.replicate n false ++ [true])) ∧
  (∀ (op : Operation) (i : WordIdx) (m : Lanes), op.extent = .word i m →
    ((op.transfers .w32).map fun x => (x.addr, x.lanes)) = (if m = 0 then [] else [(byteAddr op.line i 0, m)]) ∧
    ((op.transfers .w16).map fun x => (x.addr, x.lanes)) =
      (if m &&& 0b0011 = 0 then [] else [(byteAddr op.line i 0, m &&& 0b0011)]) ++
      (if m &&& 0b1100 = 0 then [] else [(byteAddr op.line i 2, m &&& 0b1100)]) ∧
    ((op.transfers .w8).map fun x => (x.addr, x.lanes)) =
      (if m.getLsbD 0 then [(byteAddr op.line i 0, 0b0001)] else []) ++
      (if m.getLsbD 1 then [(byteAddr op.line i 1, 0b0010)] else []) ++
      (if m.getLsbD 2 then [(byteAddr op.line i 2, 0b0100)] else []) ++
      (if m.getLsbD 3 then [(byteAddr op.line i 3, 0b1000)] else [])) ∧
  (∀ (op : Operation) (c : WordIdx) (w : Width), op.extent = .line c →
    op.transfers w = ([c, c + 1, c + 2, c + 3, c + 4, c + 5, c + 6, c + 7].flatMap fun i =>
      Operation.transfers { op with extent := .word i 0b1111 } w) ∧
    (op.transfers .w32).length = 8 ∧ (op.transfers .w16).length = 16 ∧ (op.transfers .w8).length = 32) ∧
  (∀ s : State,
    ((s.porPin = true ∨ s.dev.phase = .idle) → s.busTransfer = none) ∧
    (∀ now timer rest gathered kept, s.porPin = false → s.dev.phase = .busy now timer rest gathered kept →
      s.busTransfer = some now) ∧
    ∀ orphan timer, s.porPin = false → s.dev.phase = .clearing orphan timer → s.busTransfer = some orphan) ∧
  ∀ x : Transfer,
    let free := Config.unstrobedData x.addr x.write x.lanes x.data
    (x.write = true → x.busData &&& byteMask x.lanes = x.data &&& byteMask x.lanes ∧
      x.busData &&& ~~~byteMask x.lanes = free &&& ~~~byteMask x.lanes) ∧
    (x.write = false → x.busData = free)

/-! ## Timers, notices and foreign writes -/

/-- Reservation entry `e` that expires becomes FREE and nothing else changes (R85). A region's probe timer that runs out is
STOPPED, and a PROBE, a read of the one word at the base plus the probe offset, joins the tail of the device operation
queue (R157, R158). A timer runs out when its duration has elapsed (R197): the first to do so is the one with the least time
left. That the command lets that time elapse for every timer (notes/assumptions/3.md), and that it leaves the state as it is
while another timer has less left, for a FREE entry and for a STOPPED timer (notes/assumptions/2.md and 3.md), is the model's
choice. -/
def Obligations.RunOutsFreeReservationAndQueueProbe : Prop :=
  (∀ (e : ResId) (s : State), s.porPin = false →
    (∀ x, s.res[e] = some x → s.noneSooner x.remaining → exec (.expiry e) s = .next { s.elapse x.remaining with
      out := outputs []
      res := setAt (s.elapse x.remaining).res e none }) ∧
    (∀ x, s.res[e] = some x → ¬ s.noneSooner x.remaining → exec (.expiry e) s = .next s) ∧
    (s.res[e] = none → exec (.expiry e) s = .next s)) ∧
  ∀ (r : RegionId) (s : State), s.porPin = false →
    (∀ n, s.regions[r].probeTimer = some n → ¬ s.noneSooner n → exec (.probeTimerRunOut r) s = .next s) ∧
    (∀ n, s.regions[r].probeTimer = some n → s.noneSooner n →
      let u := s.elapse n
      let regions := setAt u.regions r { u.regions[r] with probeTimer := none }
      let addr := (s.regions[r].cfg.base ++ 0#12) + s.regions[r].cfg.probeOffset
      exec (.probeTimerRunOut r) s = .next { u with
        out := outputs []
        regions := regions
        dev := u.dev.join regions { kind := .probe, region := r, line := lineOf addr, owner := none,
                                    extent := .word (wordIdxOf addr) 0b1111, data := Vector.replicate 8 0 } }) ∧
    (s.regions[r].probeTimer = none → exec (.probeTimerRunOut r) s = .next s)

/-- An acknowledgement of the line the head notice names removes it: the timer restarts with NOTICE_TIME for the next head
or stops, and a DEFERRED head and a WAITING sweep whose waiting set holds the port go on (R103, R104, R125, R174); bits 4:0
of the word are not used (R189), and any other acknowledgement is ignored (R103). A notice timer that runs out detaches its
ATTACHED port: the port leaves every sharer set, its notice queue is emptied with the timer STOPPED, it becomes DETACHED,
and a PORT_DETACHED record names the port, the head notice's line and its kind; what waited for room in the queue goes on
(R106, R107, R112). Nothing else changes. That NOTICE_TIMEOUT lets the time left elapse for every timer, and leaves the state
as it is while another timer has less left, is the model's choice (notes/assumptions/2.md and 3.md). -/
def Obligations.NoticesLeaveByAcknowledgementOrTimeout : Prop :=
  (∀ (k : Port) (w : Word) (s : State), s.porPin = false →
    (∀ n rest, s.notices[k].queue = n :: rest → n.line = w.extractLsb' 5 27 →
      exec (.acknowledgement k w) s = .next { s with
        out := outputs []
        notices := setAt s.notices k
          { queue := rest, timer := if rest = [] then none else some s.noticeTime.toNat }
        fifo := match s.fifo.deferred with
          | none => s.fifo
          | some S => if S[k] = true then { s.fifo with deferred := none } else s.fifo
        sweep := match s.sweep.state with
          | .waitingNotice S => if S[k] = true then { s.sweep with state := .running } else s.sweep
          | _ => s.sweep }) ∧
    ((∀ n, s.notices[k].queue.head? = some n → n.line ≠ w.extractLsb' 5 27) →
      exec (.acknowledgement k w) s = .next s)) ∧
  ∀ (k : Port) (s : State) (n : Notice) (rest : List Notice) (m : Nat), s.porPin = false →
    s.notices[k].queue = n :: rest → s.notices[k].timer = some m → s.ports[k].mode = .coherent true →
    (s.noneSooner m → exec (.noticeTimeout k) s = .next { (s.elapse m).unshared k with
      out := outputs []
      ports := setAt s.ports k { s.ports[k] with mode := .coherent false }
      events := s.events.push (.portDetached n.kind k n.line) }) ∧
    (¬ s.noneSooner m → exec (.noticeTimeout k) s = .next s)

/-- A foreign write is accepted while the foreign notice FIFO holds fewer than 8 entries: its line address, bits 4:0
unused, joins the tail, and the input gives its accept handshake; a full FIFO accepts nothing (R115, R116). -/
def Obligations.ForeignWriteJoinsFifo : Prop :=
  ∀ (a : Word) (s : State), s.porPin = false →
    (s.fifo.lines.length < 8 → exec (.foreignWrite a) s = .next { s with
      fifo := { s.fifo with lines := s.fifo.lines ++ [a.extractLsb' 5 27] }
      out := { responses := [], portAccept := none, foreignAccept := true } }) ∧
    (8 ≤ s.fifo.lines.length → exec (.foreignWrite a) s = .next s)

/-- The evaluation of a PENDING head (R117 to R124, R93): a CLEAN or DIRTY line with a sharer that lacks notice room defers
the head with the set of such sharers and changes nothing else; otherwise the head leaves, a held line becomes INVALID at
the back of its recency list with INVALIDATE to every sharer and its reservation freed, and a FILLING line's slot is
tainted. A FOREIGN_CONFLICT record is made for a DIRTY line, for a drain entry that names the line, or for both, with the
DIRTY line's region, else that of the oldest such entry. A DEFERRED head is not taken. That EVALUATION leaves the state as it
is with no head is the model's choice (notes/assumptions/2.md). -/
def Obligations.EvaluationAppliesOrDefersForeignWrite : Prop :=
  (∀ (s : State) (l : LineAddr) (ls : List LineAddr), s.porPin = false → s.fifo.lines = l :: ls →
    s.fifo.deferred = none →
    let fifo : ForeignFifo := { lines := ls, deferred := none }
    let drain := s.drains.find? fun e => e.line == l
    let pending := match drain with
      | none => s.events
      | some e => s.events.push (.foreignConflict .drainPending e.region l)
    (s.lookup l = none → exec .evaluation s = .next { s with out := outputs [], fifo := fifo, events := pending }) ∧
    (∀ w tag r i f, s.lookup l = some w → s.entry (setOf l) w = .filling tag r i → s.slots[i] = some f →
      exec .evaluation s = .next { s with
        out := outputs []
        fifo := fifo
        events := pending
        slots := setAt s.slots i (some { f with tainted := true }) }) ∧
    ∀ w h, s.hits l w h →
      (¬ s.roomFor h.sharers l → exec .evaluation s = .next { s with
        out := outputs []
        fifo := { s.fifo with
          deferred := some (Vector.ofFn fun k => h.sharers[k] && !s.notices[k].hasRoom l) } }) ∧
      (s.roomFor h.sharers l → exec .evaluation s = .next { s with
        out := outputs []
        fifo := fifo
        notices := s.notified .invalidate l h.sharers
        dir := s.withInvalid (setOf l) w
        res := mapAll s.res fun x => if reserves l x then none else x
        sweep := s.sweep.wayChanged (setOf l) w
        events := if s.entry (setOf l) w = .dirty h then
            match drain with
            | none => s.events.push (.foreignConflict .dirtyDropped h.region l)
            | some _ => s.events.push (.foreignConflict .both h.region l)
          else pending })) ∧
  ∀ s : State, (s.fifo.lines = [] ∨ s.fifo.deferred ≠ none) → exec .evaluation s = .next s

/-! ## Sweeps -/

/-- A CLEAN step by the state of its way: nothing on a way that does not concern the sweep or is CLEAN; FILLING, and DIRTY
in an OFFLINE region, skipped; a DIRTY line with both drain entries in use makes the sweep WAITING for DRAIN_ROOM; any
other DIRTY line makes a COPY entry at the tail of the drain buffer, QUEUED, its write on the queue, and becomes CLEAN, its
recency list unchanged (R168, R169, R172, R173). The position moves on, and the last way ends the sweep (R175). The number of
the COPY entry's queue place, freeDrainPlace, is the model's choice (notes/assumptions/14.md). -/
def Obligations.CleanStepCopiesDirtyLine : Prop :=
  ∀ s : State, s.sweeping .clean →
    let here := s.entry s.sweep.set s.sweep.way
    let b : State := { s with out := outputs [] }
    let skip : State := { b with sweep := { s.sweep with skipped := s.sweep.skipped + 1 } }
    ((∀ r, ¬ s.concerned r) → exec .cleanSweepStep s = .next b.walked) ∧
    (∀ h, here = .clean h → exec .cleanSweepStep s = .next b.walked) ∧
    (∀ tag r i, here = .filling tag r i → s.concerned r → exec .cleanSweepStep s = .next skip.walked) ∧
    ∀ h, here = .dirty h → s.concerned h.region →
      (s.isOffline h.region = true → exec .cleanSweepStep s = .next skip.walked) ∧
      (s.isOffline h.region = false → 2 ≤ s.drains.length →
        exec .cleanSweepStep s = .next { b with sweep := { s.sweep with state := .waitingDrain } }) ∧
      (s.isOffline h.region = false → s.drains.length < 2 →
        let e : DrainEntry := { place := freeDrainPlace s.drains, line := lineAt h.tag s.sweep.set, data := h.data,
                                region := h.region, kind := .copy, held := false }
        exec .cleanSweepStep s = .next (State.walked { b with
          drains := s.drains ++ [e]
          dev := s.dev.join s.regions e.op
          dir := setAt s.dir s.sweep.set { s.dir[s.sweep.set] with
            ways := setAt s.dir[s.sweep.set].ways s.sweep.way (.clean h) }
          sweep := { s.sweep with writtenBack := s.sweep.writtenBack + 1 } }))

/-- A FLUSH step by the state of its way, in the order of R170: FILLING, a reserved line, and DIRTY in an OFFLINE region,
skipped; a DIRTY line without drain room makes the sweep WAITING for DRAIN_ROOM; a line with a sharer that lacks notice
room makes it WAITING for NOTICE_ROOM with the set of such sharers; otherwise a DIRTY line goes to an EVICT entry, every
sharer is sent a REVOKE, and the way becomes INVALID at the back of its recency list (R168, R170, R172, R173). The number of
the EVICT entry's queue place, freeDrainPlace, is the model's choice (notes/assumptions/14.md). -/
def Obligations.FlushStepEvictsLine : Prop :=
  ∀ s : State, s.sweeping .flush →
    let here := s.entry s.sweep.set s.sweep.way
    let b : State := { s with out := outputs [] }
    let skip : State := { b with sweep := { s.sweep with skipped := s.sweep.skipped + 1 } }
    ((∀ r, ¬ s.concerned r) → exec .flushSweepStep s = .next b.walked) ∧
    (∀ tag r i, here = .filling tag r i → s.concerned r → exec .flushSweepStep s = .next skip.walked) ∧
    ∀ h, here.held? = some h → s.concerned h.region →
      let l := lineAt h.tag s.sweep.set
      let wait : State := { b with sweep := { s.sweep with
        state := .waitingNotice (Vector.ofFn fun k => h.sharers[k] && !s.notices[k].hasRoom l) } }
      (s.resOf l ≠ none → exec .flushSweepStep s = .next skip.walked) ∧
      (s.resOf l = none → here = .dirty h → s.isOffline h.region = true →
        exec .flushSweepStep s = .next skip.walked) ∧
      (s.resOf l = none → here = .dirty h → s.isOffline h.region = false → 2 ≤ s.drains.length →
        exec .flushSweepStep s = .next { b with sweep := { s.sweep with state := .waitingDrain } }) ∧
      (s.resOf l = none → here = .dirty h → s.isOffline h.region = false → s.drains.length < 2 →
        ¬ s.roomFor h.sharers l → exec .flushSweepStep s = .next wait) ∧
      (s.resOf l = none → here = .clean h → ¬ s.roomFor h.sharers l → exec .flushSweepStep s = .next wait) ∧
      (s.resOf l = none → here = .dirty h → s.isOffline h.region = false → s.drains.length < 2 →
        s.roomFor h.sharers l →
        let e : DrainEntry := { place := freeDrainPlace s.drains, line := l, data := h.data, region := h.region,
                                kind := .evict, held := false }
        exec .flushSweepStep s = .next (State.walked { b with
          drains := s.drains ++ [e]
          dev := s.dev.join s.regions e.op
          notices := s.notified .revoke l h.sharers
          dir := s.withInvalid s.sweep.set s.sweep.way
          sweep := { s.sweep with
            writtenBack := s.sweep.writtenBack + 1, invalidated := s.sweep.invalidated + 1 } })) ∧
      (s.resOf l = none → here = .clean h → s.roomFor h.sharers l →
        exec .flushSweepStep s = .next (State.walked { b with
          notices := s.notified .revoke l h.sharers
          dir := s.withInvalid s.sweep.set s.sweep.way
          sweep := { s.sweep with invalidated := s.sweep.invalidated + 1 } }))

/-- A DISCARD step by the state of its way: FILLING and a reserved line, skipped; a line with a sharer that lacks notice
room makes the sweep WAITING for NOTICE_ROOM with the set of such sharers; any other CLEAN or DIRTY line, whatever its
region's health, is dropped without a drain entry or a record: every sharer is sent an INVALIDATE and the way becomes
INVALID at the back of its recency list (R168, R171, R172, R173). -/
def Obligations.DiscardStepDropsLine : Prop :=
  ∀ s : State, s.sweeping .discard →
    let here := s.entry s.sweep.set s.sweep.way
    let b : State := { s with out := outputs [] }
    let skip : State := { b with sweep := { s.sweep with skipped := s.sweep.skipped + 1 } }
    ((∀ r, ¬ s.concerned r) → exec .discardSweepStep s = .next b.walked) ∧
    (∀ tag r i, here = .filling tag r i → s.concerned r → exec .discardSweepStep s = .next skip.walked) ∧
    ∀ h, here.held? = some h → s.concerned h.region →
      let l := lineAt h.tag s.sweep.set
      (s.resOf l ≠ none → exec .discardSweepStep s = .next skip.walked) ∧
      (s.resOf l = none → ¬ s.roomFor h.sharers l → exec .discardSweepStep s = .next { b with
        sweep := { s.sweep with
          state := .waitingNotice (Vector.ofFn fun k => h.sharers[k] && !s.notices[k].hasRoom l) } }) ∧
      (s.resOf l = none → s.roomFor h.sharers l → exec .discardSweepStep s = .next (State.walked { b with
        notices := s.notified .invalidate l h.sharers
        dir := s.withInvalid s.sweep.set s.sweep.way
        sweep := { s.sweep with invalidated := s.sweep.invalidated + 1 } }))

/-! ## The control window -/

/-- The checks on a granted access to the control window, in the order of R179, in either hub state: FAULT CONTROL for a
kind other than READ and WRITE or byte enables other than lanes 0 to 3, FAULT DENIED for a WRITE without control
permission, FAULT CONTROL for an unassigned offset, FAULT CONTROL for a WRITE to a read-only register. Nothing else
changes. Address bits 11:2 name the register of the layout table at their offset, any other offset is unassigned, and the
registers are read-only, written only or both as the table gives (R183). A granted WRITE that passes the checks has the
effect of the row that names its register and command, under either name (R18, R179); that WRITE and the row are one
happening is the model's reading (notes/assumptions/11.md). -/
def Obligations.WindowChecksAnswerInOrder : Prop :=
  (∀ (s : State) (k : Port) (g : Reg) (v : Word) (c : Instr), s.writes k g v → windowRow g v = some c →
    exec .write s = exec c s) ∧
  (∀ (t : Transaction) (g : Reg), regOf t = some g ↔ 4 * (t.addr.extractLsb' 2 10).toNat = g.offset) ∧
  (∀ g : Reg,
    (g.access = .readOnly ↔ g = .sweepStatus0 ∨ g = .sweepStatus1 ∨ g = .lineQuery1 ∨ g = .eventHead0 ∨
      g = .eventHead1 ∨ g = .eventStatus) ∧
    (g.access = .writeOnly ↔ g = .portCmd ∨ g = .regionCmd ∨ g = .sweepCmd ∨ g = .eventPop)) ∧
  ∀ (s : State) (k : Port) (t : Transaction), s.takes k t → inWindow t.addr = true →
    (((t.kind ≠ .read ∧ t.kind ≠ .write) ∨ t.lanes ≠ 0b1111) →
      exec t.kind.command s = .next (s.answering k (.fault .control))) ∧
    (t.kind = .write → t.lanes = 0b1111 → s.ports[k].permission = false →
      exec .write s = .next (s.answering k (.fault .denied))) ∧
    ((t.kind = .read ∨ (t.kind = .write ∧ s.ports[k].permission = true)) → t.lanes = 0b1111 → regOf t = none →
      exec t.kind.command s = .next (s.answering k (.fault .control))) ∧
    ∀ g, t.kind = .write → s.ports[k].permission = true → t.lanes = 0b1111 → regOf t = some g →
      g.access = .readOnly → exec .write s = .next (s.answering k (.fault .control))

/-- A READ of a register returns its word as it stands in the happening of the read, and changes nothing but for EVENT_HEAD
word 0, which loads the reading port's event latch with word 1 of the head record or with zero; EVENT_HEAD word 1 returns
the latch (R180, R191). The words of the other registers are ReadBackWordsFollowLayout. The counter `fresh` of the free bits
of absent fields is the model's own (notes/assumptions/5.md), and that the READ of EVENT_HEAD and the row EVENT_HEAD are one
happening is the model's reading (notes/assumptions/11.md). -/
def Obligations.WindowReadReturnsRegister : Prop :=
  ∀ (s : State) (k : Port) (t : Transaction) (g : Reg), s.accesses k t g → t.kind = .read →
    (g ≠ .eventHead0 → g ≠ .sweepStatus0 → exec .read s = .next (s.answering k (.done (.word (s.readReg k g))))) ∧
    (g = .sweepStatus0 → exec .read s = .next { s.answering k (.done (.word s.sweepStatus0)) with
      fresh := s.fresh + 1 }) ∧
    (g = .eventHead0 → ∀ c : Instr, c = .read ∨ c = .eventHead → exec c s = .next
      { s.answering k (.done (.word (match s.events.records with
          | [] => 0
          | e :: _ => e.word0 s.fresh))) with
        latches := setAt s.latches k (match s.events.records with
          | [] => 0
          | e :: _ => e.word1)
        fresh := s.fresh + 1 }) ∧
    (g = .eventHead1 → ∀ c : Instr, c = .read ∨ c = .eventHead →
      exec c s = .next (s.answering k (.done (.word s.latches[k]))))

/-- The fields of the words read back, where the layout table places them and by its codes, and zero in every bit that it
assigns to nothing (R180, R183 to R188): HUB_STATE, PORT_CFG, the three parameters, the four words of a REGION group,
SWEEP_STATUS, LINE_QUERY and EVENT_STATUS, with the counts in their ranges; the written-only registers read zero (R180). The
fields of an event record's two words, kind and detail by the codes of each record, and of the notice word, where R189
places them, a notice channel presenting nothing while its queue is empty or the power-on reset pin is asserted (R102,
R195); the bits of an absent port or region and bits 4:1 of the notice word are free values (notes/assumptions/5.md and
16.md). -/
def Obligations.ReadBackWordsFollowLayout : Prop :=
  (Width.w8.code = 1 ∧ Width.w16.code = 2 ∧ Width.w32.code = 3 ∧ Health.disabled.code = 0 ∧ Health.online.code = 1 ∧
    Health.offline.code = 2 ∧ LineState.invalid.code = 0 ∧ LineState.clean.code = 1 ∧ LineState.dirty.code = 2 ∧
    LineState.filling.code = 3 ∧ sweepCommandCode none = 0 ∧ sweepCommandCode (some .clean) = 1 ∧
    sweepCommandCode (some .flush) = 2 ∧ sweepCommandCode (some .discard) = 3 ∧ SweepState.idle.code = 0 ∧
    SweepState.running.code = 1 ∧ SweepState.waitingDrain.code = 2 ∧ SweepState.idle.waitCode = 0 ∧
    SweepState.running.waitCode = 0 ∧ SweepState.waitingDrain.waitCode = 1 ∧
    (∀ S : PortSet, (SweepState.waitingNotice S).code = 2 ∧ (SweepState.waitingNotice S).waitCode = 2 ∧
      (SweepState.waitingNotice S).waitSet = S) ∧
    ∀ (w : SweepState) (j : Port), (∀ S, w ≠ .waitingNotice S) → w.waitSet[j] = false) ∧
  (∀ (s : State) (k : Port),
    ((s.readReg k .hubState).getLsbD 0 = true ↔ s.hub = .run) ∧ (s.readReg k .hubState).extractLsb' 1 31 = 0 ∧
      (s.readReg k .resTime).toNat = s.resTime.toNat ∧ (s.readReg k .noticeTime).toNat = s.noticeTime.toNat ∧
      (s.readReg k .urgency).toNat = s.urgency.toNat ∧ s.readReg k .portCmd = 0 ∧ s.readReg k .regionCmd = 0 ∧
      s.readReg k .sweepCmd = 0 ∧ s.readReg k .eventPop = 0 ∧
      (s.readReg k .lineQuery1).extractLsb' 5 27 = s.snapshot.line ∧ (s.readReg k .lineQuery1).extractLsb' 0 5 = 0) ∧
  (∀ (s : State) (k : Port) (n : RegionId),
    (s.readReg k (.regionWord n 0)).extractLsb' 12 20 = s.regions[n].cfg.base ∧
      (s.readReg k (.regionWord n 0)).extractLsb' 0 12 = 0 ∧
      (s.readReg k (.regionWord n 1)).extractLsb' 12 20 = s.regions[n].cfg.limit ∧
      (s.readReg k (.regionWord n 1)).extractLsb' 0 12 = 0 ∧
      s.readReg k (.regionWord n 3) = s.regions[n].cfg.probeOffset) ∧
  (∀ (s : State) (k j : Port), s.ports[j].retry ≤ 15 →
    let w := s.readReg k (.portCfg j)
    (w.getLsbD 0 = true ↔ s.ports[j].mode ≠ .plain) ∧ w.getLsbD 1 = s.ports[j].permission ∧
      w.getLsbD 2 = s.ports[j].eventEnable ∧ (w.getLsbD 4 = true ↔ s.ports[j].mode = .coherent true) ∧
      (w.getLsbD 5 = true ↔ s.urgency.toNat ≤ s.ports[j].retry) ∧
      (w.extractLsb' 8 4).toNat = s.ports[j].retry ∧ w.extractLsb' 12 20 = 0 ∧ w.getLsbD 3 = false ∧
      w.extractLsb' 6 2 = 0) ∧
  (∀ (s : State) (k : Port) (n : RegionId), s.regions[n].count ≤ 7 →
    let w := s.readReg k (.regionWord n 2)
    (w.extractLsb' 0 2).toNat = s.regions[n].cfg.width.code ∧ w.getLsbD 2 = s.regions[n].cfg.cacheable ∧
      w.getLsbD 3 = s.regions[n].cfg.writeThrough ∧ w.extractLsb' 4 8 = s.regions[n].cfg.readyTimeout ∧
      w.extractLsb' 12 3 = s.regions[n].cfg.threshold ∧ w.extractLsb' 16 8 = s.regions[n].cfg.probeInterval ∧
      (w.extractLsb' 24 2).toNat = s.regions[n].health.code ∧ (w.extractLsb' 28 3).toNat = s.regions[n].count ∧
      w.getLsbD 15 = false ∧ w.extractLsb' 26 2 = 0 ∧ w.getLsbD 31 = false) ∧
  (∀ (s : State) (k : Port), s.drains.length ≤ 2 →
    let w := s.readReg k .sweepStatus0
    (w.extractLsb' 0 2).toNat = s.sweep.state.code ∧ (w.extractLsb' 2 2).toNat = sweepCommandCode s.sweep.command ∧
      w.getLsbD 4 = s.sweep.filter.isNone ∧
      (∀ r, s.sweep.filter = some r → (w.extractLsb' 5 3).toNat = r.val) ∧
      (w.extractLsb' 8 2).toNat = s.sweep.issuer.val ∧ (w.extractLsb' 10 2).toNat = s.sweep.state.waitCode ∧
      (∀ j : Port, w.getLsbD (12 + j.val) = s.sweep.state.waitSet[j]) ∧ w.getLsbD 16 = s.sweep.aborted ∧
      (w.extractLsb' 17 7).toNat = s.sweep.set.val ∧ (w.extractLsb' 24 2).toNat = s.sweep.way.val ∧
      (w.extractLsb' 26 2).toNat = s.drains.length ∧
      (w.extractLsb' 28 2).toNat = (s.drains.filter fun e => e.held).length ∧ w.extractLsb' 30 2 = 0) ∧
  (∀ (s : State) (k : Port), s.sweep.writtenBack ≤ 512 → s.sweep.invalidated ≤ 512 → s.sweep.skipped ≤ 512 →
    let w := s.readReg k .sweepStatus1
    (w.extractLsb' 0 10).toNat = s.sweep.writtenBack ∧ (w.extractLsb' 10 10).toNat = s.sweep.invalidated ∧
      (w.extractLsb' 20 10).toNat = s.sweep.skipped ∧ w.extractLsb' 30 2 = 0) ∧
  (∀ (s : State) (k : Port), s.snapshot.drains ≤ 2 →
    let w := s.readReg k .lineQuery0
    (w.extractLsb' 0 2).toNat = s.snapshot.state.code ∧ (w.extractLsb' 2 2).toNat = s.snapshot.way.val ∧
      (∀ j : Port, w.getLsbD (4 + j.val) = s.snapshot.sharers[j]) ∧ w.getLsbD 8 = s.snapshot.regionPresent ∧
      (w.extractLsb' 9 3).toNat = s.snapshot.region.val ∧ w.getLsbD 12 = s.snapshot.reserved ∧
      (w.extractLsb' 13 2).toNat = s.snapshot.owner.val ∧ (w.extractLsb' 15 3).toNat = s.snapshot.word.val ∧
      (w.extractLsb' 18 2).toNat = s.snapshot.drains ∧ (w.extractLsb' 20 2).toNat = s.snapshot.slot.val ∧
      w.extractLsb' 22 10 = 0) ∧
  (∀ (s : State) (k : Port), s.events.records.length ≤ 16 →
    let w := s.readReg k .eventStatus
    (w.extractLsb' 0 5).toNat = s.events.records.length ∧ w.getLsbD 8 = s.events.overflow ∧
      w.extractLsb' 5 3 = 0 ∧ w.extractLsb' 9 23 = 0) ∧
  (∀ (e : Event) (n : Nat),
    let holds := fun (kind detail : Nat) (port : Option Port) (region : Option RegionId) (line : Option LineAddr) =>
      let w := e.word0 n
      (w.extractLsb' 0 4).toNat = kind ∧ (w.extractLsb' 4 4).toNat = detail ∧ w.getLsbD 8 = port.isSome ∧
        (∀ k ∈ port, (w.extractLsb' 9 2).toNat = k.val) ∧ w.getLsbD 11 = region.isSome ∧
        (∀ r ∈ region, (w.extractLsb' 12 3).toNat = r.val) ∧ w.getLsbD 15 = line.isSome ∧ w.extractLsb' 16 16 = 0 ∧
        (∀ l ∈ line, (e.word1).extractLsb' 5 27 = l ∧ (e.word1).extractLsb' 0 5 = 0) ∧ (line = none → e.word1 = 0)
    match e with
    | .regionOfflineTimeout r l => holds 1 1 none (some r) (some l)
    | .regionOfflineForced r k => holds 1 2 (some k) (some r) none
    | .regionOnlineProbe r => holds 2 1 none (some r) none
    | .regionOnlineForced r k => holds 2 2 (some k) (some r) none
    | .drainLost .evict r l => holds 3 1 none (some r) (some l)
    | .drainLost .copy r l => holds 3 2 none (some r) (some l)
    | .writeLost .device k r l => holds 4 1 (some k) (some r) (some l)
    | .writeLost .offline k r l => holds 4 2 (some k) (some r) (some l)
    | .writeLost .abandoned k r l => holds 4 3 (some k) (some r) (some l)
    | .foreignConflict .dirtyDropped r l => holds 5 1 none (some r) (some l)
    | .foreignConflict .drainPending r l => holds 5 2 none (some r) (some l)
    | .foreignConflict .both r l => holds 5 3 none (some r) (some l)
    | .portDetached .invalidate k l => holds 6 1 (some k) none (some l)
    | .portDetached .revoke k l => holds 6 2 (some k) none (some l)
    | .sweepDone false k f => holds 7 1 (some k) f none
    | .sweepDone true k f => holds 7 2 (some k) f none
    | .hubReset k => holds 8 0 (some k) none none) ∧
  ∀ (s : State) (k : Port),
    ((s.porPin = true ∨ s.notices[k].queue = []) → s.noticeWord k = none) ∧
    ∀ n rest, s.porPin = false → s.notices[k].queue = n :: rest → ∃ w : Word, s.noticeWord k = some w ∧ w.extractLsb' 5 27 = n.line ∧
      (w.getLsbD 0 = true ↔ n.kind = .revoke)

/-- A write of RUN to HUB_STATE makes the hub RUN, whichever state it was in (R181). A write to RES_TIME or NOTICE_TIME in
the range 1 to 255, or to URGENCY in 1 to 15, sets the parameter, and a value outside the range is answered FAULT CONTROL
(R80, R105, R185). A code that a command register gives no command is answered FAULT CONTROL (R181, R184, R186, R187); that
CONTROL_WINDOW_WRITE is the row of such a write is the model's reading (notes/assumptions/11.md). -/
def Obligations.HubStateAndParameterWrites : Prop :=
  ∀ (s : State) (k : Port) (g : Reg) (v : Word), s.writes k g v →
    (g = .hubState → v.extractLsb' 0 2 = 1 →
      exec .run s = .next { s.answering k (.done .nothing) with hub := .run }) ∧
    (g = .resTime → 1 ≤ v.toNat → v.toNat ≤ 255 → exec .controlWindowWrite s = .next
      { s.answering k (.done .nothing) with resTime := BitVec.ofNat 8 v.toNat }) ∧
    (g = .noticeTime → 1 ≤ v.toNat → v.toNat ≤ 255 → exec .controlWindowWrite s = .next
      { s.answering k (.done .nothing) with noticeTime := BitVec.ofNat 8 v.toNat }) ∧
    (g = .urgency → 1 ≤ v.toNat → v.toNat ≤ 15 → exec .controlWindowWrite s = .next
      { s.answering k (.done .nothing) with urgency := BitVec.ofNat 4 v.toNat }) ∧
    (((g = .resTime ∨ g = .noticeTime) ∧ (v.toNat = 0 ∨ 255 < v.toNat)) ∨
        (g = .urgency ∧ (v.toNat = 0 ∨ 15 < v.toNat)) ∨
        (g = .hubState ∧ (v.extractLsb' 0 2 = 0 ∨ v.extractLsb' 0 2 = 3)) ∨
        (g = .portCmd ∧ (v.extractLsb' 8 2 = 0 ∨ v.extractLsb' 8 2 = 3)) ∨
        (g = .regionCmd ∧ (v.extractLsb' 8 3 = 0 ∨ v.extractLsb' 8 3 = 6 ∨ v.extractLsb' 8 3 = 7)) ∨
        (g = .sweepCmd ∧ (v.extractLsb' 0 3 = 0 ∨ 5 ≤ (v.extractLsb' 0 3).toNat)) →
      exec .controlWindowWrite s = .next (s.answering k (.fault .control)))

/-- A write of RESET to HUB_STATE performs soft reset at every block in the one happening (R24, R52, R67, R69, R95, R114,
R127, R150, R178, R182, R188, R191, R194): every block takes its power-on values, but that modes, permissions, event
enables, the three parameters and the regions' configuration fields are kept, COHERENT ports are ATTACHED, enabled regions
are ONLINE with count 0, a presented transfer is an orphan, and the event queue holds one HUB_RESET record of the issuing
port. Every other transaction in flight is answered FAULT RESET and the issuing write DONE, in some order. That the queue of
commands (notes/assumptions/1.md) and the model's counter (notes/assumptions/5.md) stay is the model's choice. -/
def Obligations.SoftResetClearsEveryBlock : Prop :=
  ∀ (s : State) (k : Port) (v : Word), s.writes k .hubState v → v.extractLsb' 0 2 = 2 →
    ∃ rs : List (Port × Response),
    rs.Perm ((k, .done .nothing) :: (allPorts.filter fun j => j != k && s.ports[j].flight.isSome).map fun j =>
      (j, .fault .reset)) ∧
    exec .softReset s = .next { State.reset with
      pending := s.pending
      fresh := s.fresh
      urgency := s.urgency
      resTime := s.resTime
      noticeTime := s.noticeTime
      ports := mapAll s.ports fun p => { p with
        flight := none
        retry := 0
        mode := match p.mode with
          | .plain => .plain
          | .coherent _ => .coherent true }
      regions := mapAll s.regions fun g =>
        if g.health = .disabled then g else { g with health := .online, count := 0, probeTimer := none }
      dev := { queue := [], places := Vector.replicate 4 .free, phase := match s.dev.phase with
        | .idle => .idle
        | .busy now timer _ _ _ => .clearing now timer
        | .clearing orphan timer => .clearing orphan timer }
      events := { records := [.hubReset k], overflow := false }
      out := outputs rs }

/-- A write to PORT_CFG of port `j` sets its mode, control permission and event enable from bits 0, 1 and 2, unless it
would leave no port with control permission, which is answered FAULT CONTROL (R184): COHERENT written to a PLAIN port makes
it COHERENT and ATTACHED, PLAIN written to an ATTACHED port has the effects of detach without a record, and a mode written
as it stands leaves the attachment, the queue and the sharer sets as they are (R107, R111). ATTACH and DETACH act on the
port that bits 1:0 of the word written to PORT_CMD name: FAULT CONTROL for a PLAIN port; ATTACH makes a DETACHED port
ATTACHED and leaves an ATTACHED one as it is (R110); DETACH has the effects of R107 on an ATTACHED port, without a record,
and none on a DETACHED one (R109). -/
def Obligations.PortWritesSetModeAndAttachment : Prop :=
  (∀ (s : State) (k j : Port) (v : Word), s.writes k (.portCfg j) v →
    let written := fun m => setAt s.ports j
      { s.ports[j] with mode := m, permission := v.getLsbD 1, eventEnable := v.getLsbD 2 }
    ((v.getLsbD 1 = false ∧ ∀ i, i ≠ j → s.ports[i].permission = false) →
      exec .portCfg s = .next (s.answering k (.fault .control))) ∧
    (¬ (v.getLsbD 1 = false ∧ ∀ i, i ≠ j → s.ports[i].permission = false) →
      (v.getLsbD 0 = true → s.ports[j].mode = .plain → exec .portCfg s = .next
        (State.answering { s with ports := written (.coherent true) } k (.done .nothing))) ∧
      (v.getLsbD 0 = true → s.ports[j].mode ≠ .plain → exec .portCfg s = .next
        (State.answering { s with ports := written s.ports[j].mode } k (.done .nothing))) ∧
      (v.getLsbD 0 = false → s.ports[j].mode ≠ .coherent true → exec .portCfg s = .next
        (State.answering { s with ports := written .plain } k (.done .nothing))) ∧
      (v.getLsbD 0 = false → s.ports[j].mode = .coherent true → exec .portCfg s = .next
        (State.answering { s.unshared j with ports := written .plain } k (.done .nothing))))) ∧
  ∀ (s : State) (k j : Port) (v : Word), s.writes k .portCmd v → j.val = (v.extractLsb' 0 2).toNat →
    let mode := fun (m : Mode) => setAt s.ports j { s.ports[j] with mode := m }
    (v.extractLsb' 8 2 = 1 →
      (s.ports[j].mode = .plain → exec .attach s = .next (s.answering k (.fault .control))) ∧
      (s.ports[j].mode = .coherent true → exec .attach s = .next (s.answering k (.done .nothing))) ∧
      (s.ports[j].mode = .coherent false → exec .attach s = .next
        (State.answering { s with ports := mode (.coherent true) } k (.done .nothing)))) ∧
    (v.extractLsb' 8 2 = 2 →
      (s.ports[j].mode = .plain → exec .detach s = .next (s.answering k (.fault .control))) ∧
      (s.ports[j].mode = .coherent false → exec .detach s = .next (s.answering k (.done .nothing))) ∧
      (s.ports[j].mode = .coherent true → exec .detach s = .next
        (State.answering { s.unshared j with ports := mode (.coherent false) } k (.done .nothing))))

/-- A write to a word of a REGION group sets that word's configuration fields while the entry is DISABLED and every value
is in range; otherwise it is answered FAULT CONTROL and no field changes (R130, R186). -/
def Obligations.RegionWriteSetsConfiguration : Prop :=
  ∀ (s : State) (k : Port) (n : RegionId) (i : Fin 4) (v : Word), s.writes k (.regionWord n i) v →
    let cfg := s.regions[n].cfg
    let wrote := fun (c : RegionConfig) => exec .region s = .next { s.answering k (.done .nothing) with
      regions := setAt s.regions n { s.regions[n] with cfg := c } }
    let refused := exec .region s = .next (s.answering k (.fault .control))
    (s.regions[n].health ≠ .disabled → refused) ∧
    (s.regions[n].health = .disabled →
      (i = 0 → if v.extractLsb' 0 12 = 0 then wrote { cfg with base := v.extractLsb' 12 20 } else refused) ∧
      (i = 1 → if v.extractLsb' 0 12 = 0 then wrote { cfg with limit := v.extractLsb' 12 20 } else refused) ∧
      (i = 2 → ∀ width : Width,
        (v.extractLsb' 0 2).toNat = width.code → v.extractLsb' 4 8 ≠ 0 → v.extractLsb' 12 3 ≠ 0 →
        v.extractLsb' 16 8 ≠ 0 → wrote { cfg with
          width := width, cacheable := v.getLsbD 2, writeThrough := v.getLsbD 3,
          readyTimeout := v.extractLsb' 4 8, threshold := v.extractLsb' 12 3, probeInterval := v.extractLsb' 16 8 }) ∧
      (i = 2 → (v.extractLsb' 0 2 = 0 ∨ v.extractLsb' 4 8 = 0 ∨ v.extractLsb' 12 3 = 0 ∨ v.extractLsb' 16 8 = 0) →
        refused) ∧
      (i = 3 → if v.extractLsb' 0 2 = 0 then wrote { cfg with probeOffset := v } else refused))

/-- ENABLE makes a DISABLED entry ONLINE with count 0 and its timer STOPPED, unless its limit is below its base, its probe
offset is not less than its size, its range includes the control window, or its range shares an address with another
enabled entry's, which is answered FAULT CONTROL; an enabled entry stays as it is (R131). DISABLE makes an enabled entry
DISABLED, count 0, timer STOPPED, unless a way, a drain entry, a queued or parked operation, an orphan transfer or a HELD
reservation still belongs to the region, which is answered FAULT CONTROL; a DISABLED entry stays as it is (R132). -/
def Obligations.EnableAndDisableCheckRegion : Prop :=
  ∀ (s : State) (k : Port) (v : Word) (r : RegionId), s.writes k .regionCmd v → r.val = (v.extractLsb' 0 3).toNat →
    let g := s.regions[r]
    let done := s.answering k (.done .nothing)
    let refused := s.answering k (.fault .control)
    let shares := ∃ n : RegionId, n ≠ r ∧ s.regions[n].health ≠ .disabled ∧
      ∃ page : Tag, g.cfg.base ≤ page ∧ page ≤ g.cfg.limit ∧ s.regions[n].cfg.base ≤ page ∧
        page ≤ s.regions[n].cfg.limit
    let belongs := (∃ (si : SetIdx) (w : WayIdx), (s.entry si w).region? = some r) ∨
      (∃ e ∈ s.drains, e.region = r) ∨ (∃ op ∈ s.dev.queue, op.region = r) ∨
      (∃ (j : Port) (op : Operation), s.dev.places[j] = .orphaned (some op) ∧ op.region = r) ∨
      (∃ orphan timer, s.dev.phase = .clearing orphan timer ∧ orphan.region = r) ∨
      ∃ (i : ResId) (x : Reservation), s.res[i] = some x ∧ g.cfg.base ≤ tagOf x.line ∧ tagOf x.line ≤ g.cfg.limit
    (v.extractLsb' 8 3 = 1 →
      (g.health ≠ .disabled → exec .enable s = .next done) ∧
      (g.health = .disabled →
        (g.cfg.limit < g.cfg.base ∨
          (g.cfg.base ≤ g.cfg.limit ∧
            (g.cfg.limit.toNat - g.cfg.base.toNat + 1) * 4096 ≤ g.cfg.probeOffset.toNat) ∨
          (g.cfg.base ≤ 0xFFFFF ∧ g.cfg.limit = 0xFFFFF) ∨ shares) →
        exec .enable s = .next refused) ∧
      (g.health = .disabled → g.cfg.base ≤ g.cfg.limit →
        g.cfg.probeOffset.toNat < (g.cfg.limit.toNat - g.cfg.base.toNat + 1) * 4096 → g.cfg.limit ≠ 0xFFFFF →
        ¬ shares → exec .enable s = .next { done with
          regions := setAt s.regions r { g with health := .online, count := 0, probeTimer := none } })) ∧
    (v.extractLsb' 8 3 = 2 →
      (g.health = .disabled → exec .disable s = .next done) ∧
      (g.health ≠ .disabled → belongs → exec .disable s = .next refused) ∧
      (g.health ≠ .disabled → ¬ belongs → exec .disable s = .next { done with
        regions := setAt s.regions r { g with health := .disabled, count := 0, probeTimer := none } }))

/-- FORCE_PROBE stops the RUNNING probe timer of an OFFLINE region and queues its PROBE, and changes nothing where a probe
stands or the region is ONLINE (R161). FORCE_ONLINE takes an OFFLINE region's probe off the queue, a presented probe
transfer becoming an orphan, and returns the region to ONLINE with count 0, its HELD drains QUEUED again oldest first, and
a REGION_ONLINE record of detail FORCED (R162). Both answer DONE, and FAULT CONTROL for a DISABLED region. -/
def Obligations.ForceProbeAndForceOnline : Prop :=
  ∀ (s : State) (k : Port) (v : Word) (r : RegionId), s.writes k .regionCmd v → r.val = (v.extractLsb' 0 3).toNat →
    let g := s.regions[r]
    let done := s.answering k (.done .nothing)
    let refused := s.answering k (.fault .control)
    (v.extractLsb' 8 3 = 3 →
      (g.health = .disabled → exec .forceProbe s = .next refused) ∧
      ((g.health = .online ∨ (g.health = .offline ∧ g.probeTimer = none)) → exec .forceProbe s = .next done) ∧
      (g.health = .offline → g.probeTimer ≠ none →
        let regions := setAt s.regions r { g with probeTimer := none }
        exec .forceProbe s = .next { done with
          regions := regions
          dev := s.dev.join regions (probeOp r g.cfg) })) ∧
    (v.extractLsb' 8 3 = 4 →
      (g.health = .disabled → exec .forceOnline s = .next refused) ∧
      (g.health = .online → exec .forceOnline s = .next done) ∧
      (g.health = .offline →
        let regions := setAt s.regions r { g with health := .online, count := 0, probeTimer := none }
        let queue := (s.dev.queue.filter fun x => !(x.kind == .probe && x.region == r)) ++
          (s.drains.filter fun e => e.held && e.region == r).map DrainEntry.op
        ∃ phase, exec .forceOnline s = .next { done with
          regions := regions
          drains := s.drains.map fun e => if e.region = r then { e with held := false } else e
          events := s.events.push (.regionOnlineForced r k)
          dev := { s.dev with queue := queue, phase := phase } } ∧
        (s.dev.phase = .idle → phase = presentHead regions queue) ∧
        (∀ orphan timer, s.dev.phase = .clearing orphan timer → phase = .clearing orphan timer) ∧
        ∀ op q now timer rest gathered kept, s.dev.phase = .busy now timer rest gathered kept →
          s.dev.queue = op :: q →
          ((op.kind = .probe ∧ op.region = r) → phase = .clearing now timer) ∧
          (¬ (op.kind = .probe ∧ op.region = r) → phase = .busy now timer rest gathered kept)))

/-- CLEAN, FLUSH and DISCARD start a sweep of their command with the filter written, position way 0 of set 0 and counts 0,
unless one is in progress or the filter names a DISABLED region, which is answered FAULT CONTROL (R167, R187). ABORT ends a
sweep in progress with the aborted indication and a SWEEP_DONE record of detail ABORTED that carries the issuing port, its
position and counts kept, and does nothing to an IDLE one; it answers DONE (R176). -/
def Obligations.SweepCommandsStartAndAbort : Prop :=
  ∀ (s : State) (k : Port) (v : Word), s.writes k .sweepCmd v →
    let done := s.answering k (.done .nothing)
    (∀ (c : SweepCommand) (i : Instr) (f : Option RegionId),
      ((c = .clean ∧ i = .clean ∧ v.extractLsb' 0 3 = 1) ∨ (c = .flush ∧ i = .flush ∧ v.extractLsb' 0 3 = 2) ∨
        (c = .discard ∧ i = .discard ∧ v.extractLsb' 0 3 = 3)) →
      ((v.getLsbD 7 = true ∧ f = none) ∨
        (v.getLsbD 7 = false ∧ ∃ r : RegionId, r.val = (v.extractLsb' 4 3).toNat ∧ f = some r)) →
      ((s.sweep.state ≠ .idle ∨ ∃ r, f = some r ∧ s.regions[r].health = .disabled) →
        exec i s = .next (s.answering k (.fault .control))) ∧
      (s.sweep.state = .idle → (∀ r, f = some r → s.regions[r].health ≠ .disabled) →
        exec i s = .next { done with
          sweep := { state := .running, command := some c, filter := f, issuer := k, set := 0, way := 0,
                     writtenBack := 0, invalidated := 0, skipped := 0, aborted := false } })) ∧
    (v.extractLsb' 0 3 = 4 →
      (s.sweep.state = .idle → exec .abort s = .next done) ∧
      (s.sweep.state ≠ .idle → exec .abort s = .next { done with
        sweep := { s.sweep with state := .idle, aborted := true }
        events := s.events.push (.sweepDone true s.sweep.issuer s.sweep.filter) }))

/-- A write to LINE_QUERY stores the snapshot of the line at the written address: state, way and slot, sharers, region,
reservation with owner and word index, and the number of drain entries that name it (R188). The region, the owner and the
word index of an absent region or reservation are the model's free values (notes/assumptions/5.md). -/
def Obligations.LineQueryTakesSnapshot : Prop :=
  ∀ (s : State) (k : Port) (v : Word), s.writes k .lineQuery0 v →
    let l : LineAddr := v.extractLsb' 5 27
    ∃ p : Snapshot, exec .lineQuery s = .next { s.answering k (.done .nothing) with
        snapshot := p
        fresh := s.fresh + 1 } ∧
      p.line = l ∧ p.drains = (s.drains.filter fun e => e.line == l).length ∧
      (s.lookup l = none → p.state = .invalid ∧ p.way = 0 ∧ p.slot = 0 ∧ (∀ j : Port, p.sharers[j] = false) ∧
        (p.regionPresent = true ↔ s.regionAt v ≠ none) ∧ ∀ r, s.regionAt v = some r → p.region = r) ∧
      (∀ w h, s.lookup l = some w → (s.entry (setOf l) w = .clean h ∨ s.entry (setOf l) w = .dirty h) →
        (p.state = .clean ↔ s.entry (setOf l) w = .clean h) ∧ (p.state = .dirty ↔ s.entry (setOf l) w = .dirty h) ∧
          p.way = w ∧ p.slot = 0 ∧ p.sharers = h.sharers ∧ p.regionPresent = true ∧ p.region = h.region) ∧
      (∀ w tag r i, s.lookup l = some w → s.entry (setOf l) w = .filling tag r i →
        p.state = .filling ∧ p.way = w ∧ p.slot = i ∧ (∀ j : Port, p.sharers[j] = false) ∧
          p.regionPresent = true ∧ p.region = r) ∧
      (s.resOf l = none → p.reserved = false) ∧
      ∀ i x, s.resOf l = some i → s.res[i] = some x → p.reserved = true ∧ p.owner = x.owner ∧ p.word = x.word

/-- A write to EVENT_POP removes the head record, clears the overflow flag if that leaves the queue empty, leaves an empty
queue as it is, and answers DONE (R192). A record joins the tail of a queue that holds fewer than 16 and sets the overflow
flag of one that holds 16 (R190). A port's event line is asserted exactly while its event enable is set and the queue holds
a record, the power-on reset pin deasserted (R193). -/
def Obligations.EventQueueStoresAndPops : Prop :=
  (∀ (s : State) (k : Port) (v : Word), s.writes k .eventPop v →
    (s.events.records = [] → exec .eventPop s = .next (s.answering k (.done .nothing))) ∧
    ∀ e es, s.events.records = e :: es → exec .eventPop s = .next { s.answering k (.done .nothing) with
      events := { records := es, overflow := s.events.overflow && !es.isEmpty } }) ∧
  (∀ (q : EventQueue) (e : Event),
    (q.records.length < 16 → q.push e = { q with records := q.records ++ [e] }) ∧
    (16 ≤ q.records.length → q.push e = { q with overflow := true })) ∧
  ∀ (s : State) (k : Port),
    s.eventLine k = true ↔ s.porPin = false ∧ s.ports[k].eventEnable = true ∧ s.events.records ≠ []
end

