-- ==== Sys2Proof/Laws/State.lean ====
section
/-! SUPPORT. One lemma for each field of State after each of the shared operations that update it: what the operation
gives the field, or that it leaves it. Each is true by unfolding, so that no later proof unfolds a record update. -/

namespace Sys2Proof.Machine

@[simp] theorem State.quiet_pending (s : State) : (s.quiet).pending = s.pending := rfl
@[simp] theorem State.quiet_porPin (s : State) : (s.quiet).porPin = s.porPin := rfl
@[simp] theorem State.quiet_hub (s : State) : (s.quiet).hub = s.hub := rfl
@[simp] theorem State.quiet_ports (s : State) : (s.quiet).ports = s.ports := rfl
@[simp] theorem State.quiet_lastGranted (s : State) : (s.quiet).lastGranted = s.lastGranted := rfl
@[simp] theorem State.quiet_urgency (s : State) : (s.quiet).urgency = s.urgency := rfl
@[simp] theorem State.quiet_dir (s : State) : (s.quiet).dir = s.dir := rfl
@[simp] theorem State.quiet_slots (s : State) : (s.quiet).slots = s.slots := rfl
@[simp] theorem State.quiet_drains (s : State) : (s.quiet).drains = s.drains := rfl
@[simp] theorem State.quiet_res (s : State) : (s.quiet).res = s.res := rfl
@[simp] theorem State.quiet_resTime (s : State) : (s.quiet).resTime = s.resTime := rfl
@[simp] theorem State.quiet_notices (s : State) : (s.quiet).notices = s.notices := rfl
@[simp] theorem State.quiet_noticeTime (s : State) : (s.quiet).noticeTime = s.noticeTime := rfl
@[simp] theorem State.quiet_fifo (s : State) : (s.quiet).fifo = s.fifo := rfl
@[simp] theorem State.quiet_regions (s : State) : (s.quiet).regions = s.regions := rfl
@[simp] theorem State.quiet_dev (s : State) : (s.quiet).dev = s.dev := rfl
@[simp] theorem State.quiet_sweep (s : State) : (s.quiet).sweep = s.sweep := rfl
@[simp] theorem State.quiet_snapshot (s : State) : (s.quiet).snapshot = s.snapshot := rfl
@[simp] theorem State.quiet_events (s : State) : (s.quiet).events = s.events := rfl
@[simp] theorem State.quiet_latches (s : State) : (s.quiet).latches = s.latches := rfl
@[simp] theorem State.quiet_fresh (s : State) : (s.quiet).fresh = s.fresh := rfl
@[simp] theorem State.quiet_out (s : State) : (s.quiet).out = Outputs.none := rfl

@[simp] theorem State.setPort_pending (s : State) (k : Port) (p : MasterPort) :
    (s.setPort k p).pending = s.pending := rfl
@[simp] theorem State.setPort_porPin (s : State) (k : Port) (p : MasterPort) : (s.setPort k p).porPin = s.porPin := rfl
@[simp] theorem State.setPort_hub (s : State) (k : Port) (p : MasterPort) : (s.setPort k p).hub = s.hub := rfl
@[simp] theorem State.setPort_ports (s : State) (k : Port) (p : MasterPort) :
    (s.setPort k p).ports = setAt s.ports k p := rfl
@[simp] theorem State.setPort_lastGranted (s : State) (k : Port) (p : MasterPort) :
    (s.setPort k p).lastGranted = s.lastGranted := rfl
@[simp] theorem State.setPort_urgency (s : State) (k : Port) (p : MasterPort) :
    (s.setPort k p).urgency = s.urgency := rfl
@[simp] theorem State.setPort_dir (s : State) (k : Port) (p : MasterPort) : (s.setPort k p).dir = s.dir := rfl
@[simp] theorem State.setPort_slots (s : State) (k : Port) (p : MasterPort) : (s.setPort k p).slots = s.slots := rfl
@[simp] theorem State.setPort_drains (s : State) (k : Port) (p : MasterPort) : (s.setPort k p).drains = s.drains := rfl
@[simp] theorem State.setPort_res (s : State) (k : Port) (p : MasterPort) : (s.setPort k p).res = s.res := rfl
@[simp] theorem State.setPort_resTime (s : State) (k : Port) (p : MasterPort) :
    (s.setPort k p).resTime = s.resTime := rfl
@[simp] theorem State.setPort_notices (s : State) (k : Port) (p : MasterPort) :
    (s.setPort k p).notices = s.notices := rfl
@[simp] theorem State.setPort_noticeTime (s : State) (k : Port) (p : MasterPort) :
    (s.setPort k p).noticeTime = s.noticeTime := rfl
@[simp] theorem State.setPort_fifo (s : State) (k : Port) (p : MasterPort) : (s.setPort k p).fifo = s.fifo := rfl
@[simp] theorem State.setPort_regions (s : State) (k : Port) (p : MasterPort) :
    (s.setPort k p).regions = s.regions := rfl
@[simp] theorem State.setPort_dev (s : State) (k : Port) (p : MasterPort) : (s.setPort k p).dev = s.dev := rfl
@[simp] theorem State.setPort_sweep (s : State) (k : Port) (p : MasterPort) : (s.setPort k p).sweep = s.sweep := rfl
@[simp] theorem State.setPort_snapshot (s : State) (k : Port) (p : MasterPort) :
    (s.setPort k p).snapshot = s.snapshot := rfl
@[simp] theorem State.setPort_events (s : State) (k : Port) (p : MasterPort) : (s.setPort k p).events = s.events := rfl
@[simp] theorem State.setPort_latches (s : State) (k : Port) (p : MasterPort) :
    (s.setPort k p).latches = s.latches := rfl
@[simp] theorem State.setPort_fresh (s : State) (k : Port) (p : MasterPort) : (s.setPort k p).fresh = s.fresh := rfl
@[simp] theorem State.setPort_out (s : State) (k : Port) (p : MasterPort) : (s.setPort k p).out = s.out := rfl

@[simp] theorem State.place_pending (s : State) (k : Port) (p : Placement) : (s.place k p).pending = s.pending := rfl
@[simp] theorem State.place_porPin (s : State) (k : Port) (p : Placement) : (s.place k p).porPin = s.porPin := rfl
@[simp] theorem State.place_hub (s : State) (k : Port) (p : Placement) : (s.place k p).hub = s.hub := rfl
@[simp] theorem State.place_ports (s : State) (k : Port) (p : Placement) :
    (s.place k p).ports = setAt s.ports k { s.ports[k] with flight := some p } := rfl
@[simp] theorem State.place_lastGranted (s : State) (k : Port) (p : Placement) :
    (s.place k p).lastGranted = s.lastGranted := rfl
@[simp] theorem State.place_urgency (s : State) (k : Port) (p : Placement) : (s.place k p).urgency = s.urgency := rfl
@[simp] theorem State.place_dir (s : State) (k : Port) (p : Placement) : (s.place k p).dir = s.dir := rfl
@[simp] theorem State.place_slots (s : State) (k : Port) (p : Placement) : (s.place k p).slots = s.slots := rfl
@[simp] theorem State.place_drains (s : State) (k : Port) (p : Placement) : (s.place k p).drains = s.drains := rfl
@[simp] theorem State.place_res (s : State) (k : Port) (p : Placement) : (s.place k p).res = s.res := rfl
@[simp] theorem State.place_resTime (s : State) (k : Port) (p : Placement) : (s.place k p).resTime = s.resTime := rfl
@[simp] theorem State.place_notices (s : State) (k : Port) (p : Placement) : (s.place k p).notices = s.notices := rfl
@[simp] theorem State.place_noticeTime (s : State) (k : Port) (p : Placement) :
    (s.place k p).noticeTime = s.noticeTime := rfl
@[simp] theorem State.place_fifo (s : State) (k : Port) (p : Placement) : (s.place k p).fifo = s.fifo := rfl
@[simp] theorem State.place_regions (s : State) (k : Port) (p : Placement) : (s.place k p).regions = s.regions := rfl
@[simp] theorem State.place_dev (s : State) (k : Port) (p : Placement) : (s.place k p).dev = s.dev := rfl
@[simp] theorem State.place_sweep (s : State) (k : Port) (p : Placement) : (s.place k p).sweep = s.sweep := rfl
@[simp] theorem State.place_snapshot (s : State) (k : Port) (p : Placement) : (s.place k p).snapshot = s.snapshot := rfl
@[simp] theorem State.place_events (s : State) (k : Port) (p : Placement) : (s.place k p).events = s.events := rfl
@[simp] theorem State.place_latches (s : State) (k : Port) (p : Placement) : (s.place k p).latches = s.latches := rfl
@[simp] theorem State.place_fresh (s : State) (k : Port) (p : Placement) : (s.place k p).fresh = s.fresh := rfl
@[simp] theorem State.place_out (s : State) (k : Port) (p : Placement) : (s.place k p).out = s.out := rfl

@[simp] theorem State.respond_pending (s : State) (k : Port) (r : Response) : (s.respond k r).pending = s.pending := rfl
@[simp] theorem State.respond_porPin (s : State) (k : Port) (r : Response) : (s.respond k r).porPin = s.porPin := rfl
@[simp] theorem State.respond_hub (s : State) (k : Port) (r : Response) : (s.respond k r).hub = s.hub := rfl
@[simp] theorem State.respond_ports (s : State) (k : Port) (r : Response) :
    (s.respond k r).ports = setAt s.ports k (s.ports[k].answered r) := rfl
@[simp] theorem State.respond_lastGranted (s : State) (k : Port) (r : Response) :
    (s.respond k r).lastGranted = s.lastGranted := rfl
@[simp] theorem State.respond_urgency (s : State) (k : Port) (r : Response) : (s.respond k r).urgency = s.urgency := rfl
@[simp] theorem State.respond_dir (s : State) (k : Port) (r : Response) : (s.respond k r).dir = s.dir := rfl
@[simp] theorem State.respond_slots (s : State) (k : Port) (r : Response) : (s.respond k r).slots = s.slots := rfl
@[simp] theorem State.respond_drains (s : State) (k : Port) (r : Response) : (s.respond k r).drains = s.drains := rfl
@[simp] theorem State.respond_res (s : State) (k : Port) (r : Response) : (s.respond k r).res = s.res := rfl
@[simp] theorem State.respond_resTime (s : State) (k : Port) (r : Response) : (s.respond k r).resTime = s.resTime := rfl
@[simp] theorem State.respond_notices (s : State) (k : Port) (r : Response) : (s.respond k r).notices = s.notices := rfl
@[simp] theorem State.respond_noticeTime (s : State) (k : Port) (r : Response) :
    (s.respond k r).noticeTime = s.noticeTime := rfl
@[simp] theorem State.respond_fifo (s : State) (k : Port) (r : Response) : (s.respond k r).fifo = s.fifo := rfl
@[simp] theorem State.respond_regions (s : State) (k : Port) (r : Response) : (s.respond k r).regions = s.regions := rfl
@[simp] theorem State.respond_dev (s : State) (k : Port) (r : Response) : (s.respond k r).dev = s.dev := rfl
@[simp] theorem State.respond_sweep (s : State) (k : Port) (r : Response) : (s.respond k r).sweep = s.sweep := rfl
@[simp] theorem State.respond_snapshot (s : State) (k : Port) (r : Response) :
    (s.respond k r).snapshot = s.snapshot := rfl
@[simp] theorem State.respond_events (s : State) (k : Port) (r : Response) : (s.respond k r).events = s.events := rfl
@[simp] theorem State.respond_latches (s : State) (k : Port) (r : Response) : (s.respond k r).latches = s.latches := rfl
@[simp] theorem State.respond_fresh (s : State) (k : Port) (r : Response) : (s.respond k r).fresh = s.fresh := rfl
@[simp] theorem State.respond_out (s : State) (k : Port) (r : Response) :
    (s.respond k r).out = { s.out with responses := s.out.responses ++ [(k, r)] } := rfl

@[simp] theorem State.record_pending (s : State) (e : Event) : (s.record e).pending = s.pending := rfl
@[simp] theorem State.record_porPin (s : State) (e : Event) : (s.record e).porPin = s.porPin := rfl
@[simp] theorem State.record_hub (s : State) (e : Event) : (s.record e).hub = s.hub := rfl
@[simp] theorem State.record_ports (s : State) (e : Event) : (s.record e).ports = s.ports := rfl
@[simp] theorem State.record_lastGranted (s : State) (e : Event) : (s.record e).lastGranted = s.lastGranted := rfl
@[simp] theorem State.record_urgency (s : State) (e : Event) : (s.record e).urgency = s.urgency := rfl
@[simp] theorem State.record_dir (s : State) (e : Event) : (s.record e).dir = s.dir := rfl
@[simp] theorem State.record_slots (s : State) (e : Event) : (s.record e).slots = s.slots := rfl
@[simp] theorem State.record_drains (s : State) (e : Event) : (s.record e).drains = s.drains := rfl
@[simp] theorem State.record_res (s : State) (e : Event) : (s.record e).res = s.res := rfl
@[simp] theorem State.record_resTime (s : State) (e : Event) : (s.record e).resTime = s.resTime := rfl
@[simp] theorem State.record_notices (s : State) (e : Event) : (s.record e).notices = s.notices := rfl
@[simp] theorem State.record_noticeTime (s : State) (e : Event) : (s.record e).noticeTime = s.noticeTime := rfl
@[simp] theorem State.record_fifo (s : State) (e : Event) : (s.record e).fifo = s.fifo := rfl
@[simp] theorem State.record_regions (s : State) (e : Event) : (s.record e).regions = s.regions := rfl
@[simp] theorem State.record_dev (s : State) (e : Event) : (s.record e).dev = s.dev := rfl
@[simp] theorem State.record_sweep (s : State) (e : Event) : (s.record e).sweep = s.sweep := rfl
@[simp] theorem State.record_snapshot (s : State) (e : Event) : (s.record e).snapshot = s.snapshot := rfl
@[simp] theorem State.record_events (s : State) (e : Event) : (s.record e).events = s.events.push e := rfl
@[simp] theorem State.record_latches (s : State) (e : Event) : (s.record e).latches = s.latches := rfl
@[simp] theorem State.record_fresh (s : State) (e : Event) : (s.record e).fresh = s.fresh := rfl
@[simp] theorem State.record_out (s : State) (e : Event) : (s.record e).out = s.out := rfl

@[simp] theorem State.sendNotices_pending (s : State) (n : NoticeKind) (l : LineAddr) (S : PortSet) :
    (s.sendNotices n l S).pending = s.pending := rfl
@[simp] theorem State.sendNotices_porPin (s : State) (n : NoticeKind) (l : LineAddr) (S : PortSet) :
    (s.sendNotices n l S).porPin = s.porPin := rfl
@[simp] theorem State.sendNotices_hub (s : State) (n : NoticeKind) (l : LineAddr) (S : PortSet) :
    (s.sendNotices n l S).hub = s.hub := rfl
@[simp] theorem State.sendNotices_ports (s : State) (n : NoticeKind) (l : LineAddr) (S : PortSet) :
    (s.sendNotices n l S).ports = s.ports := rfl
@[simp] theorem State.sendNotices_lastGranted (s : State) (n : NoticeKind) (l : LineAddr) (S : PortSet) :
    (s.sendNotices n l S).lastGranted = s.lastGranted := rfl
@[simp] theorem State.sendNotices_urgency (s : State) (n : NoticeKind) (l : LineAddr) (S : PortSet) :
    (s.sendNotices n l S).urgency = s.urgency := rfl
@[simp] theorem State.sendNotices_dir (s : State) (n : NoticeKind) (l : LineAddr) (S : PortSet) :
    (s.sendNotices n l S).dir = s.dir := rfl
@[simp] theorem State.sendNotices_slots (s : State) (n : NoticeKind) (l : LineAddr) (S : PortSet) :
    (s.sendNotices n l S).slots = s.slots := rfl
@[simp] theorem State.sendNotices_drains (s : State) (n : NoticeKind) (l : LineAddr) (S : PortSet) :
    (s.sendNotices n l S).drains = s.drains := rfl
@[simp] theorem State.sendNotices_res (s : State) (n : NoticeKind) (l : LineAddr) (S : PortSet) :
    (s.sendNotices n l S).res = s.res := rfl
@[simp] theorem State.sendNotices_resTime (s : State) (n : NoticeKind) (l : LineAddr) (S : PortSet) :
    (s.sendNotices n l S).resTime = s.resTime := rfl
@[simp] theorem State.sendNotices_notices (s : State) (n : NoticeKind) (l : LineAddr) (S : PortSet) :
    (s.sendNotices n l S).notices =
      Vector.ofFn fun k => if S[k] then s.notices[k].sent n l s.noticeTime.toNat else s.notices[k] := rfl
@[simp] theorem State.sendNotices_noticeTime (s : State) (n : NoticeKind) (l : LineAddr) (S : PortSet) :
    (s.sendNotices n l S).noticeTime = s.noticeTime := rfl
@[simp] theorem State.sendNotices_fifo (s : State) (n : NoticeKind) (l : LineAddr) (S : PortSet) :
    (s.sendNotices n l S).fifo = s.fifo := rfl
@[simp] theorem State.sendNotices_regions (s : State) (n : NoticeKind) (l : LineAddr) (S : PortSet) :
    (s.sendNotices n l S).regions = s.regions := rfl
@[simp] theorem State.sendNotices_dev (s : State) (n : NoticeKind) (l : LineAddr) (S : PortSet) :
    (s.sendNotices n l S).dev = s.dev := rfl
@[simp] theorem State.sendNotices_sweep (s : State) (n : NoticeKind) (l : LineAddr) (S : PortSet) :
    (s.sendNotices n l S).sweep = s.sweep := rfl
@[simp] theorem State.sendNotices_snapshot (s : State) (n : NoticeKind) (l : LineAddr) (S : PortSet) :
    (s.sendNotices n l S).snapshot = s.snapshot := rfl
@[simp] theorem State.sendNotices_events (s : State) (n : NoticeKind) (l : LineAddr) (S : PortSet) :
    (s.sendNotices n l S).events = s.events := rfl
@[simp] theorem State.sendNotices_latches (s : State) (n : NoticeKind) (l : LineAddr) (S : PortSet) :
    (s.sendNotices n l S).latches = s.latches := rfl
@[simp] theorem State.sendNotices_fresh (s : State) (n : NoticeKind) (l : LineAddr) (S : PortSet) :
    (s.sendNotices n l S).fresh = s.fresh := rfl
@[simp] theorem State.sendNotices_out (s : State) (n : NoticeKind) (l : LineAddr) (S : PortSet) :
    (s.sendNotices n l S).out = s.out := rfl

@[simp] theorem State.emptyNotices_pending (s : State) (k : Port) : (s.emptyNotices k).pending = s.pending := rfl
@[simp] theorem State.emptyNotices_porPin (s : State) (k : Port) : (s.emptyNotices k).porPin = s.porPin := rfl
@[simp] theorem State.emptyNotices_hub (s : State) (k : Port) : (s.emptyNotices k).hub = s.hub := rfl
@[simp] theorem State.emptyNotices_ports (s : State) (k : Port) : (s.emptyNotices k).ports = s.ports := rfl
@[simp] theorem State.emptyNotices_lastGranted (s : State) (k : Port) :
    (s.emptyNotices k).lastGranted = s.lastGranted := rfl
@[simp] theorem State.emptyNotices_urgency (s : State) (k : Port) : (s.emptyNotices k).urgency = s.urgency := rfl
@[simp] theorem State.emptyNotices_dir (s : State) (k : Port) : (s.emptyNotices k).dir = s.dir := rfl
@[simp] theorem State.emptyNotices_slots (s : State) (k : Port) : (s.emptyNotices k).slots = s.slots := rfl
@[simp] theorem State.emptyNotices_drains (s : State) (k : Port) : (s.emptyNotices k).drains = s.drains := rfl
@[simp] theorem State.emptyNotices_res (s : State) (k : Port) : (s.emptyNotices k).res = s.res := rfl
@[simp] theorem State.emptyNotices_resTime (s : State) (k : Port) : (s.emptyNotices k).resTime = s.resTime := rfl
@[simp] theorem State.emptyNotices_notices (s : State) (k : Port) :
    (s.emptyNotices k).notices = setAt s.notices k NoticeQueue.empty := rfl
@[simp] theorem State.emptyNotices_noticeTime (s : State) (k : Port) :
    (s.emptyNotices k).noticeTime = s.noticeTime := rfl
@[simp] theorem State.emptyNotices_regions (s : State) (k : Port) : (s.emptyNotices k).regions = s.regions := rfl
@[simp] theorem State.emptyNotices_dev (s : State) (k : Port) : (s.emptyNotices k).dev = s.dev := rfl
@[simp] theorem State.emptyNotices_snapshot (s : State) (k : Port) : (s.emptyNotices k).snapshot = s.snapshot := rfl
@[simp] theorem State.emptyNotices_events (s : State) (k : Port) : (s.emptyNotices k).events = s.events := rfl
@[simp] theorem State.emptyNotices_latches (s : State) (k : Port) : (s.emptyNotices k).latches = s.latches := rfl
@[simp] theorem State.emptyNotices_fresh (s : State) (k : Port) : (s.emptyNotices k).fresh = s.fresh := rfl
@[simp] theorem State.emptyNotices_out (s : State) (k : Port) : (s.emptyNotices k).out = s.out := rfl

@[simp] theorem State.setEntry_pending (s : State) (si : SetIdx) (w : WayIdx) (e : Entry) :
    (s.setEntry si w e).pending = s.pending := rfl
@[simp] theorem State.setEntry_porPin (s : State) (si : SetIdx) (w : WayIdx) (e : Entry) :
    (s.setEntry si w e).porPin = s.porPin := rfl
@[simp] theorem State.setEntry_hub (s : State) (si : SetIdx) (w : WayIdx) (e : Entry) :
    (s.setEntry si w e).hub = s.hub := rfl
@[simp] theorem State.setEntry_ports (s : State) (si : SetIdx) (w : WayIdx) (e : Entry) :
    (s.setEntry si w e).ports = s.ports := rfl
@[simp] theorem State.setEntry_lastGranted (s : State) (si : SetIdx) (w : WayIdx) (e : Entry) :
    (s.setEntry si w e).lastGranted = s.lastGranted := rfl
@[simp] theorem State.setEntry_urgency (s : State) (si : SetIdx) (w : WayIdx) (e : Entry) :
    (s.setEntry si w e).urgency = s.urgency := rfl
@[simp] theorem State.setEntry_dir (s : State) (si : SetIdx) (w : WayIdx) (e : Entry) :
    (s.setEntry si w e).dir = setAt s.dir si { s.dir[si] with ways := setAt s.dir[si].ways w e } := rfl
@[simp] theorem State.setEntry_slots (s : State) (si : SetIdx) (w : WayIdx) (e : Entry) :
    (s.setEntry si w e).slots = s.slots := rfl
@[simp] theorem State.setEntry_drains (s : State) (si : SetIdx) (w : WayIdx) (e : Entry) :
    (s.setEntry si w e).drains = s.drains := rfl
@[simp] theorem State.setEntry_res (s : State) (si : SetIdx) (w : WayIdx) (e : Entry) :
    (s.setEntry si w e).res = s.res := rfl
@[simp] theorem State.setEntry_resTime (s : State) (si : SetIdx) (w : WayIdx) (e : Entry) :
    (s.setEntry si w e).resTime = s.resTime := rfl
@[simp] theorem State.setEntry_notices (s : State) (si : SetIdx) (w : WayIdx) (e : Entry) :
    (s.setEntry si w e).notices = s.notices := rfl
@[simp] theorem State.setEntry_noticeTime (s : State) (si : SetIdx) (w : WayIdx) (e : Entry) :
    (s.setEntry si w e).noticeTime = s.noticeTime := rfl
@[simp] theorem State.setEntry_fifo (s : State) (si : SetIdx) (w : WayIdx) (e : Entry) :
    (s.setEntry si w e).fifo = s.fifo := rfl
@[simp] theorem State.setEntry_regions (s : State) (si : SetIdx) (w : WayIdx) (e : Entry) :
    (s.setEntry si w e).regions = s.regions := rfl
@[simp] theorem State.setEntry_dev (s : State) (si : SetIdx) (w : WayIdx) (e : Entry) :
    (s.setEntry si w e).dev = s.dev := rfl
@[simp] theorem State.setEntry_sweep (s : State) (si : SetIdx) (w : WayIdx) (e : Entry) :
    (s.setEntry si w e).sweep = s.sweep := rfl
@[simp] theorem State.setEntry_snapshot (s : State) (si : SetIdx) (w : WayIdx) (e : Entry) :
    (s.setEntry si w e).snapshot = s.snapshot := rfl
@[simp] theorem State.setEntry_events (s : State) (si : SetIdx) (w : WayIdx) (e : Entry) :
    (s.setEntry si w e).events = s.events := rfl
@[simp] theorem State.setEntry_latches (s : State) (si : SetIdx) (w : WayIdx) (e : Entry) :
    (s.setEntry si w e).latches = s.latches := rfl
@[simp] theorem State.setEntry_fresh (s : State) (si : SetIdx) (w : WayIdx) (e : Entry) :
    (s.setEntry si w e).fresh = s.fresh := rfl
@[simp] theorem State.setEntry_out (s : State) (si : SetIdx) (w : WayIdx) (e : Entry) :
    (s.setEntry si w e).out = s.out := rfl

@[simp] theorem State.touch_pending (s : State) (si : SetIdx) (w : WayIdx) : (s.touch si w).pending = s.pending := rfl
@[simp] theorem State.touch_porPin (s : State) (si : SetIdx) (w : WayIdx) : (s.touch si w).porPin = s.porPin := rfl
@[simp] theorem State.touch_hub (s : State) (si : SetIdx) (w : WayIdx) : (s.touch si w).hub = s.hub := rfl
@[simp] theorem State.touch_ports (s : State) (si : SetIdx) (w : WayIdx) : (s.touch si w).ports = s.ports := rfl
@[simp] theorem State.touch_lastGranted (s : State) (si : SetIdx) (w : WayIdx) :
    (s.touch si w).lastGranted = s.lastGranted := rfl
@[simp] theorem State.touch_urgency (s : State) (si : SetIdx) (w : WayIdx) : (s.touch si w).urgency = s.urgency := rfl
@[simp] theorem State.touch_dir (s : State) (si : SetIdx) (w : WayIdx) :
    (s.touch si w).dir = setAt s.dir si { s.dir[si] with recency := moveFront w s.dir[si].recency } := rfl
@[simp] theorem State.touch_slots (s : State) (si : SetIdx) (w : WayIdx) : (s.touch si w).slots = s.slots := rfl
@[simp] theorem State.touch_drains (s : State) (si : SetIdx) (w : WayIdx) : (s.touch si w).drains = s.drains := rfl
@[simp] theorem State.touch_res (s : State) (si : SetIdx) (w : WayIdx) : (s.touch si w).res = s.res := rfl
@[simp] theorem State.touch_resTime (s : State) (si : SetIdx) (w : WayIdx) : (s.touch si w).resTime = s.resTime := rfl
@[simp] theorem State.touch_notices (s : State) (si : SetIdx) (w : WayIdx) : (s.touch si w).notices = s.notices := rfl
@[simp] theorem State.touch_noticeTime (s : State) (si : SetIdx) (w : WayIdx) :
    (s.touch si w).noticeTime = s.noticeTime := rfl
@[simp] theorem State.touch_fifo (s : State) (si : SetIdx) (w : WayIdx) : (s.touch si w).fifo = s.fifo := rfl
@[simp] theorem State.touch_regions (s : State) (si : SetIdx) (w : WayIdx) : (s.touch si w).regions = s.regions := rfl
@[simp] theorem State.touch_dev (s : State) (si : SetIdx) (w : WayIdx) : (s.touch si w).dev = s.dev := rfl
@[simp] theorem State.touch_sweep (s : State) (si : SetIdx) (w : WayIdx) : (s.touch si w).sweep = s.sweep := rfl
@[simp] theorem State.touch_snapshot (s : State) (si : SetIdx) (w : WayIdx) :
    (s.touch si w).snapshot = s.snapshot := rfl
@[simp] theorem State.touch_events (s : State) (si : SetIdx) (w : WayIdx) : (s.touch si w).events = s.events := rfl
@[simp] theorem State.touch_latches (s : State) (si : SetIdx) (w : WayIdx) : (s.touch si w).latches = s.latches := rfl
@[simp] theorem State.touch_fresh (s : State) (si : SetIdx) (w : WayIdx) : (s.touch si w).fresh = s.fresh := rfl
@[simp] theorem State.touch_out (s : State) (si : SetIdx) (w : WayIdx) : (s.touch si w).out = s.out := rfl

@[simp] theorem State.sink_pending (s : State) (si : SetIdx) (w : WayIdx) : (s.sink si w).pending = s.pending := rfl
@[simp] theorem State.sink_porPin (s : State) (si : SetIdx) (w : WayIdx) : (s.sink si w).porPin = s.porPin := rfl
@[simp] theorem State.sink_hub (s : State) (si : SetIdx) (w : WayIdx) : (s.sink si w).hub = s.hub := rfl
@[simp] theorem State.sink_ports (s : State) (si : SetIdx) (w : WayIdx) : (s.sink si w).ports = s.ports := rfl
@[simp] theorem State.sink_lastGranted (s : State) (si : SetIdx) (w : WayIdx) :
    (s.sink si w).lastGranted = s.lastGranted := rfl
@[simp] theorem State.sink_urgency (s : State) (si : SetIdx) (w : WayIdx) : (s.sink si w).urgency = s.urgency := rfl
@[simp] theorem State.sink_dir (s : State) (si : SetIdx) (w : WayIdx) :
    (s.sink si w).dir = setAt s.dir si { s.dir[si] with recency := moveBack w s.dir[si].recency } := rfl
@[simp] theorem State.sink_slots (s : State) (si : SetIdx) (w : WayIdx) : (s.sink si w).slots = s.slots := rfl
@[simp] theorem State.sink_drains (s : State) (si : SetIdx) (w : WayIdx) : (s.sink si w).drains = s.drains := rfl
@[simp] theorem State.sink_res (s : State) (si : SetIdx) (w : WayIdx) : (s.sink si w).res = s.res := rfl
@[simp] theorem State.sink_resTime (s : State) (si : SetIdx) (w : WayIdx) : (s.sink si w).resTime = s.resTime := rfl
@[simp] theorem State.sink_notices (s : State) (si : SetIdx) (w : WayIdx) : (s.sink si w).notices = s.notices := rfl
@[simp] theorem State.sink_noticeTime (s : State) (si : SetIdx) (w : WayIdx) :
    (s.sink si w).noticeTime = s.noticeTime := rfl
@[simp] theorem State.sink_fifo (s : State) (si : SetIdx) (w : WayIdx) : (s.sink si w).fifo = s.fifo := rfl
@[simp] theorem State.sink_regions (s : State) (si : SetIdx) (w : WayIdx) : (s.sink si w).regions = s.regions := rfl
@[simp] theorem State.sink_dev (s : State) (si : SetIdx) (w : WayIdx) : (s.sink si w).dev = s.dev := rfl
@[simp] theorem State.sink_sweep (s : State) (si : SetIdx) (w : WayIdx) : (s.sink si w).sweep = s.sweep := rfl
@[simp] theorem State.sink_snapshot (s : State) (si : SetIdx) (w : WayIdx) : (s.sink si w).snapshot = s.snapshot := rfl
@[simp] theorem State.sink_events (s : State) (si : SetIdx) (w : WayIdx) : (s.sink si w).events = s.events := rfl
@[simp] theorem State.sink_latches (s : State) (si : SetIdx) (w : WayIdx) : (s.sink si w).latches = s.latches := rfl
@[simp] theorem State.sink_fresh (s : State) (si : SetIdx) (w : WayIdx) : (s.sink si w).fresh = s.fresh := rfl
@[simp] theorem State.sink_out (s : State) (si : SetIdx) (w : WayIdx) : (s.sink si w).out = s.out := rfl

@[simp] theorem State.invalidate_pending (s : State) (si : SetIdx) (w : WayIdx) :
    (s.invalidate si w).pending = s.pending := rfl
@[simp] theorem State.invalidate_porPin (s : State) (si : SetIdx) (w : WayIdx) :
    (s.invalidate si w).porPin = s.porPin := rfl
@[simp] theorem State.invalidate_hub (s : State) (si : SetIdx) (w : WayIdx) : (s.invalidate si w).hub = s.hub := rfl
@[simp] theorem State.invalidate_ports (s : State) (si : SetIdx) (w : WayIdx) :
    (s.invalidate si w).ports = s.ports := rfl
@[simp] theorem State.invalidate_lastGranted (s : State) (si : SetIdx) (w : WayIdx) :
    (s.invalidate si w).lastGranted = s.lastGranted := rfl
@[simp] theorem State.invalidate_urgency (s : State) (si : SetIdx) (w : WayIdx) :
    (s.invalidate si w).urgency = s.urgency := rfl
@[simp] theorem State.invalidate_dir (s : State) (si : SetIdx) (w : WayIdx) :
    (s.invalidate si w).dir = ((s.setEntry si w .invalid).sink si w).dir := rfl
@[simp] theorem State.invalidate_slots (s : State) (si : SetIdx) (w : WayIdx) :
    (s.invalidate si w).slots = s.slots := rfl
@[simp] theorem State.invalidate_drains (s : State) (si : SetIdx) (w : WayIdx) :
    (s.invalidate si w).drains = s.drains := rfl
@[simp] theorem State.invalidate_res (s : State) (si : SetIdx) (w : WayIdx) : (s.invalidate si w).res = s.res := rfl
@[simp] theorem State.invalidate_resTime (s : State) (si : SetIdx) (w : WayIdx) :
    (s.invalidate si w).resTime = s.resTime := rfl
@[simp] theorem State.invalidate_notices (s : State) (si : SetIdx) (w : WayIdx) :
    (s.invalidate si w).notices = s.notices := rfl
@[simp] theorem State.invalidate_noticeTime (s : State) (si : SetIdx) (w : WayIdx) :
    (s.invalidate si w).noticeTime = s.noticeTime := rfl
@[simp] theorem State.invalidate_fifo (s : State) (si : SetIdx) (w : WayIdx) : (s.invalidate si w).fifo = s.fifo := rfl
@[simp] theorem State.invalidate_regions (s : State) (si : SetIdx) (w : WayIdx) :
    (s.invalidate si w).regions = s.regions := rfl
@[simp] theorem State.invalidate_dev (s : State) (si : SetIdx) (w : WayIdx) : (s.invalidate si w).dev = s.dev := rfl
@[simp] theorem State.invalidate_sweep (s : State) (si : SetIdx) (w : WayIdx) :
    (s.invalidate si w).sweep = s.sweep.wayChanged si w := rfl
@[simp] theorem State.invalidate_snapshot (s : State) (si : SetIdx) (w : WayIdx) :
    (s.invalidate si w).snapshot = s.snapshot := rfl
@[simp] theorem State.invalidate_events (s : State) (si : SetIdx) (w : WayIdx) :
    (s.invalidate si w).events = s.events := rfl
@[simp] theorem State.invalidate_latches (s : State) (si : SetIdx) (w : WayIdx) :
    (s.invalidate si w).latches = s.latches := rfl
@[simp] theorem State.invalidate_fresh (s : State) (si : SetIdx) (w : WayIdx) :
    (s.invalidate si w).fresh = s.fresh := rfl
@[simp] theorem State.invalidate_out (s : State) (si : SetIdx) (w : WayIdx) : (s.invalidate si w).out = s.out := rfl

@[simp] theorem State.dropSharer_pending (s : State) (k : Port) :
    (s.dropSharer k).pending = s.pending := by rw [State.dropSharer]
@[simp] theorem State.dropSharer_porPin (s : State) (k : Port) :
    (s.dropSharer k).porPin = s.porPin := by rw [State.dropSharer]
@[simp] theorem State.dropSharer_hub (s : State) (k : Port) : (s.dropSharer k).hub = s.hub := by rw [State.dropSharer]
@[simp] theorem State.dropSharer_ports (s : State) (k : Port) :
    (s.dropSharer k).ports = s.ports := by rw [State.dropSharer]
@[simp] theorem State.dropSharer_lastGranted (s : State) (k : Port) :
    (s.dropSharer k).lastGranted = s.lastGranted := by rw [State.dropSharer]
@[simp] theorem State.dropSharer_urgency (s : State) (k : Port) :
    (s.dropSharer k).urgency = s.urgency := by rw [State.dropSharer]
@[simp] theorem State.dropSharer_dir (s : State) (k : Port) :
    (s.dropSharer k).dir = mapAll s.dir fun d => d.dropSharer k := by rw [State.dropSharer]
@[simp] theorem State.dropSharer_slots (s : State) (k : Port) :
    (s.dropSharer k).slots = s.slots := by rw [State.dropSharer]
@[simp] theorem State.dropSharer_drains (s : State) (k : Port) :
    (s.dropSharer k).drains = s.drains := by rw [State.dropSharer]
@[simp] theorem State.dropSharer_res (s : State) (k : Port) : (s.dropSharer k).res = s.res := by rw [State.dropSharer]
@[simp] theorem State.dropSharer_resTime (s : State) (k : Port) :
    (s.dropSharer k).resTime = s.resTime := by rw [State.dropSharer]
@[simp] theorem State.dropSharer_notices (s : State) (k : Port) :
    (s.dropSharer k).notices = s.notices := by rw [State.dropSharer]
@[simp] theorem State.dropSharer_noticeTime (s : State) (k : Port) :
    (s.dropSharer k).noticeTime = s.noticeTime := by rw [State.dropSharer]
@[simp] theorem State.dropSharer_fifo (s : State) (k : Port) :
    (s.dropSharer k).fifo = s.fifo := by rw [State.dropSharer]
@[simp] theorem State.dropSharer_regions (s : State) (k : Port) :
    (s.dropSharer k).regions = s.regions := by rw [State.dropSharer]
@[simp] theorem State.dropSharer_dev (s : State) (k : Port) : (s.dropSharer k).dev = s.dev := by rw [State.dropSharer]
@[simp] theorem State.dropSharer_sweep (s : State) (k : Port) :
    (s.dropSharer k).sweep = s.sweep := by rw [State.dropSharer]
@[simp] theorem State.dropSharer_snapshot (s : State) (k : Port) :
    (s.dropSharer k).snapshot = s.snapshot := by rw [State.dropSharer]
@[simp] theorem State.dropSharer_events (s : State) (k : Port) :
    (s.dropSharer k).events = s.events := by rw [State.dropSharer]
@[simp] theorem State.dropSharer_latches (s : State) (k : Port) :
    (s.dropSharer k).latches = s.latches := by rw [State.dropSharer]
@[simp] theorem State.dropSharer_fresh (s : State) (k : Port) :
    (s.dropSharer k).fresh = s.fresh := by rw [State.dropSharer]
@[simp] theorem State.dropSharer_out (s : State) (k : Port) : (s.dropSharer k).out = s.out := by rw [State.dropSharer]

@[simp] theorem State.setRes_pending (s : State) (i : ResId) (r : Reservation) :
    (s.setRes i r).pending = s.pending := rfl
@[simp] theorem State.setRes_porPin (s : State) (i : ResId) (r : Reservation) : (s.setRes i r).porPin = s.porPin := rfl
@[simp] theorem State.setRes_hub (s : State) (i : ResId) (r : Reservation) : (s.setRes i r).hub = s.hub := rfl
@[simp] theorem State.setRes_ports (s : State) (i : ResId) (r : Reservation) : (s.setRes i r).ports = s.ports := rfl
@[simp] theorem State.setRes_lastGranted (s : State) (i : ResId) (r : Reservation) :
    (s.setRes i r).lastGranted = s.lastGranted := rfl
@[simp] theorem State.setRes_urgency (s : State) (i : ResId) (r : Reservation) :
    (s.setRes i r).urgency = s.urgency := rfl
@[simp] theorem State.setRes_dir (s : State) (i : ResId) (r : Reservation) : (s.setRes i r).dir = s.dir := rfl
@[simp] theorem State.setRes_slots (s : State) (i : ResId) (r : Reservation) : (s.setRes i r).slots = s.slots := rfl
@[simp] theorem State.setRes_drains (s : State) (i : ResId) (r : Reservation) : (s.setRes i r).drains = s.drains := rfl
@[simp] theorem State.setRes_res (s : State) (i : ResId) (r : Reservation) :
    (s.setRes i r).res = setAt s.res i (some r) := rfl
@[simp] theorem State.setRes_resTime (s : State) (i : ResId) (r : Reservation) :
    (s.setRes i r).resTime = s.resTime := rfl
@[simp] theorem State.setRes_notices (s : State) (i : ResId) (r : Reservation) :
    (s.setRes i r).notices = s.notices := rfl
@[simp] theorem State.setRes_noticeTime (s : State) (i : ResId) (r : Reservation) :
    (s.setRes i r).noticeTime = s.noticeTime := rfl
@[simp] theorem State.setRes_fifo (s : State) (i : ResId) (r : Reservation) : (s.setRes i r).fifo = s.fifo := rfl
@[simp] theorem State.setRes_regions (s : State) (i : ResId) (r : Reservation) :
    (s.setRes i r).regions = s.regions := rfl
@[simp] theorem State.setRes_dev (s : State) (i : ResId) (r : Reservation) : (s.setRes i r).dev = s.dev := rfl
@[simp] theorem State.setRes_sweep (s : State) (i : ResId) (r : Reservation) : (s.setRes i r).sweep = s.sweep := rfl
@[simp] theorem State.setRes_snapshot (s : State) (i : ResId) (r : Reservation) :
    (s.setRes i r).snapshot = s.snapshot := rfl
@[simp] theorem State.setRes_events (s : State) (i : ResId) (r : Reservation) : (s.setRes i r).events = s.events := rfl
@[simp] theorem State.setRes_latches (s : State) (i : ResId) (r : Reservation) :
    (s.setRes i r).latches = s.latches := rfl
@[simp] theorem State.setRes_fresh (s : State) (i : ResId) (r : Reservation) : (s.setRes i r).fresh = s.fresh := rfl
@[simp] theorem State.setRes_out (s : State) (i : ResId) (r : Reservation) : (s.setRes i r).out = s.out := rfl

@[simp] theorem State.freeLine_pending (s : State) (l : LineAddr) : (s.freeLine l).pending = s.pending := rfl
@[simp] theorem State.freeLine_porPin (s : State) (l : LineAddr) : (s.freeLine l).porPin = s.porPin := rfl
@[simp] theorem State.freeLine_hub (s : State) (l : LineAddr) : (s.freeLine l).hub = s.hub := rfl
@[simp] theorem State.freeLine_ports (s : State) (l : LineAddr) : (s.freeLine l).ports = s.ports := rfl
@[simp] theorem State.freeLine_lastGranted (s : State) (l : LineAddr) :
    (s.freeLine l).lastGranted = s.lastGranted := rfl
@[simp] theorem State.freeLine_urgency (s : State) (l : LineAddr) : (s.freeLine l).urgency = s.urgency := rfl
@[simp] theorem State.freeLine_dir (s : State) (l : LineAddr) : (s.freeLine l).dir = s.dir := rfl
@[simp] theorem State.freeLine_slots (s : State) (l : LineAddr) : (s.freeLine l).slots = s.slots := rfl
@[simp] theorem State.freeLine_drains (s : State) (l : LineAddr) : (s.freeLine l).drains = s.drains := rfl
@[simp] theorem State.freeLine_res (s : State) (l : LineAddr) :
    (s.freeLine l).res = mapAll s.res fun r => if reserves l r then none else r := rfl
@[simp] theorem State.freeLine_resTime (s : State) (l : LineAddr) : (s.freeLine l).resTime = s.resTime := rfl
@[simp] theorem State.freeLine_notices (s : State) (l : LineAddr) : (s.freeLine l).notices = s.notices := rfl
@[simp] theorem State.freeLine_noticeTime (s : State) (l : LineAddr) : (s.freeLine l).noticeTime = s.noticeTime := rfl
@[simp] theorem State.freeLine_fifo (s : State) (l : LineAddr) : (s.freeLine l).fifo = s.fifo := rfl
@[simp] theorem State.freeLine_regions (s : State) (l : LineAddr) : (s.freeLine l).regions = s.regions := rfl
@[simp] theorem State.freeLine_dev (s : State) (l : LineAddr) : (s.freeLine l).dev = s.dev := rfl
@[simp] theorem State.freeLine_sweep (s : State) (l : LineAddr) : (s.freeLine l).sweep = s.sweep := rfl
@[simp] theorem State.freeLine_snapshot (s : State) (l : LineAddr) : (s.freeLine l).snapshot = s.snapshot := rfl
@[simp] theorem State.freeLine_events (s : State) (l : LineAddr) : (s.freeLine l).events = s.events := rfl
@[simp] theorem State.freeLine_latches (s : State) (l : LineAddr) : (s.freeLine l).latches = s.latches := rfl
@[simp] theorem State.freeLine_fresh (s : State) (l : LineAddr) : (s.freeLine l).fresh = s.fresh := rfl
@[simp] theorem State.freeLine_out (s : State) (l : LineAddr) : (s.freeLine l).out = s.out := rfl

@[simp] theorem State.freeOwned_pending (s : State) (k : Port) : (s.freeOwned k).pending = s.pending := rfl
@[simp] theorem State.freeOwned_porPin (s : State) (k : Port) : (s.freeOwned k).porPin = s.porPin := rfl
@[simp] theorem State.freeOwned_hub (s : State) (k : Port) : (s.freeOwned k).hub = s.hub := rfl
@[simp] theorem State.freeOwned_ports (s : State) (k : Port) : (s.freeOwned k).ports = s.ports := rfl
@[simp] theorem State.freeOwned_lastGranted (s : State) (k : Port) : (s.freeOwned k).lastGranted = s.lastGranted := rfl
@[simp] theorem State.freeOwned_urgency (s : State) (k : Port) : (s.freeOwned k).urgency = s.urgency := rfl
@[simp] theorem State.freeOwned_dir (s : State) (k : Port) : (s.freeOwned k).dir = s.dir := rfl
@[simp] theorem State.freeOwned_slots (s : State) (k : Port) : (s.freeOwned k).slots = s.slots := rfl
@[simp] theorem State.freeOwned_drains (s : State) (k : Port) : (s.freeOwned k).drains = s.drains := rfl
@[simp] theorem State.freeOwned_res (s : State) (k : Port) :
    (s.freeOwned k).res = mapAll s.res fun r => if ownedBy k r then none else r := rfl
@[simp] theorem State.freeOwned_resTime (s : State) (k : Port) : (s.freeOwned k).resTime = s.resTime := rfl
@[simp] theorem State.freeOwned_notices (s : State) (k : Port) : (s.freeOwned k).notices = s.notices := rfl
@[simp] theorem State.freeOwned_noticeTime (s : State) (k : Port) : (s.freeOwned k).noticeTime = s.noticeTime := rfl
@[simp] theorem State.freeOwned_fifo (s : State) (k : Port) : (s.freeOwned k).fifo = s.fifo := rfl
@[simp] theorem State.freeOwned_regions (s : State) (k : Port) : (s.freeOwned k).regions = s.regions := rfl
@[simp] theorem State.freeOwned_dev (s : State) (k : Port) : (s.freeOwned k).dev = s.dev := rfl
@[simp] theorem State.freeOwned_sweep (s : State) (k : Port) : (s.freeOwned k).sweep = s.sweep := rfl
@[simp] theorem State.freeOwned_snapshot (s : State) (k : Port) : (s.freeOwned k).snapshot = s.snapshot := rfl
@[simp] theorem State.freeOwned_events (s : State) (k : Port) : (s.freeOwned k).events = s.events := rfl
@[simp] theorem State.freeOwned_latches (s : State) (k : Port) : (s.freeOwned k).latches = s.latches := rfl
@[simp] theorem State.freeOwned_fresh (s : State) (k : Port) : (s.freeOwned k).fresh = s.fresh := rfl
@[simp] theorem State.freeOwned_out (s : State) (k : Port) : (s.freeOwned k).out = s.out := rfl

@[simp] theorem State.setRegion_pending (s : State) (r : RegionId) (g : Region) :
    (s.setRegion r g).pending = s.pending := rfl
@[simp] theorem State.setRegion_porPin (s : State) (r : RegionId) (g : Region) :
    (s.setRegion r g).porPin = s.porPin := rfl
@[simp] theorem State.setRegion_hub (s : State) (r : RegionId) (g : Region) : (s.setRegion r g).hub = s.hub := rfl
@[simp] theorem State.setRegion_ports (s : State) (r : RegionId) (g : Region) : (s.setRegion r g).ports = s.ports := rfl
@[simp] theorem State.setRegion_lastGranted (s : State) (r : RegionId) (g : Region) :
    (s.setRegion r g).lastGranted = s.lastGranted := rfl
@[simp] theorem State.setRegion_urgency (s : State) (r : RegionId) (g : Region) :
    (s.setRegion r g).urgency = s.urgency := rfl
@[simp] theorem State.setRegion_dir (s : State) (r : RegionId) (g : Region) : (s.setRegion r g).dir = s.dir := rfl
@[simp] theorem State.setRegion_slots (s : State) (r : RegionId) (g : Region) : (s.setRegion r g).slots = s.slots := rfl
@[simp] theorem State.setRegion_drains (s : State) (r : RegionId) (g : Region) :
    (s.setRegion r g).drains = s.drains := rfl
@[simp] theorem State.setRegion_res (s : State) (r : RegionId) (g : Region) : (s.setRegion r g).res = s.res := rfl
@[simp] theorem State.setRegion_resTime (s : State) (r : RegionId) (g : Region) :
    (s.setRegion r g).resTime = s.resTime := rfl
@[simp] theorem State.setRegion_notices (s : State) (r : RegionId) (g : Region) :
    (s.setRegion r g).notices = s.notices := rfl
@[simp] theorem State.setRegion_noticeTime (s : State) (r : RegionId) (g : Region) :
    (s.setRegion r g).noticeTime = s.noticeTime := rfl
@[simp] theorem State.setRegion_fifo (s : State) (r : RegionId) (g : Region) : (s.setRegion r g).fifo = s.fifo := rfl
@[simp] theorem State.setRegion_regions (s : State) (r : RegionId) (g : Region) :
    (s.setRegion r g).regions = setAt s.regions r g := rfl
@[simp] theorem State.setRegion_dev (s : State) (r : RegionId) (g : Region) : (s.setRegion r g).dev = s.dev := rfl
@[simp] theorem State.setRegion_sweep (s : State) (r : RegionId) (g : Region) : (s.setRegion r g).sweep = s.sweep := rfl
@[simp] theorem State.setRegion_snapshot (s : State) (r : RegionId) (g : Region) :
    (s.setRegion r g).snapshot = s.snapshot := rfl
@[simp] theorem State.setRegion_events (s : State) (r : RegionId) (g : Region) :
    (s.setRegion r g).events = s.events := rfl
@[simp] theorem State.setRegion_latches (s : State) (r : RegionId) (g : Region) :
    (s.setRegion r g).latches = s.latches := rfl
@[simp] theorem State.setRegion_fresh (s : State) (r : RegionId) (g : Region) : (s.setRegion r g).fresh = s.fresh := rfl
@[simp] theorem State.setRegion_out (s : State) (r : RegionId) (g : Region) : (s.setRegion r g).out = s.out := rfl

@[simp] theorem State.setCount_pending (s : State) (r : RegionId) (n : Nat) :
    (s.setCount r n).pending = s.pending := rfl
@[simp] theorem State.setCount_porPin (s : State) (r : RegionId) (n : Nat) : (s.setCount r n).porPin = s.porPin := rfl
@[simp] theorem State.setCount_hub (s : State) (r : RegionId) (n : Nat) : (s.setCount r n).hub = s.hub := rfl
@[simp] theorem State.setCount_ports (s : State) (r : RegionId) (n : Nat) : (s.setCount r n).ports = s.ports := rfl
@[simp] theorem State.setCount_lastGranted (s : State) (r : RegionId) (n : Nat) :
    (s.setCount r n).lastGranted = s.lastGranted := rfl
@[simp] theorem State.setCount_urgency (s : State) (r : RegionId) (n : Nat) :
    (s.setCount r n).urgency = s.urgency := rfl
@[simp] theorem State.setCount_dir (s : State) (r : RegionId) (n : Nat) : (s.setCount r n).dir = s.dir := rfl
@[simp] theorem State.setCount_slots (s : State) (r : RegionId) (n : Nat) : (s.setCount r n).slots = s.slots := rfl
@[simp] theorem State.setCount_drains (s : State) (r : RegionId) (n : Nat) : (s.setCount r n).drains = s.drains := rfl
@[simp] theorem State.setCount_res (s : State) (r : RegionId) (n : Nat) : (s.setCount r n).res = s.res := rfl
@[simp] theorem State.setCount_resTime (s : State) (r : RegionId) (n : Nat) :
    (s.setCount r n).resTime = s.resTime := rfl
@[simp] theorem State.setCount_notices (s : State) (r : RegionId) (n : Nat) :
    (s.setCount r n).notices = s.notices := rfl
@[simp] theorem State.setCount_noticeTime (s : State) (r : RegionId) (n : Nat) :
    (s.setCount r n).noticeTime = s.noticeTime := rfl
@[simp] theorem State.setCount_fifo (s : State) (r : RegionId) (n : Nat) : (s.setCount r n).fifo = s.fifo := rfl
@[simp] theorem State.setCount_regions (s : State) (r : RegionId) (n : Nat) :
    (s.setCount r n).regions = setAt s.regions r { s.regions[r] with count := n } := rfl
@[simp] theorem State.setCount_dev (s : State) (r : RegionId) (n : Nat) : (s.setCount r n).dev = s.dev := rfl
@[simp] theorem State.setCount_sweep (s : State) (r : RegionId) (n : Nat) : (s.setCount r n).sweep = s.sweep := rfl
@[simp] theorem State.setCount_snapshot (s : State) (r : RegionId) (n : Nat) :
    (s.setCount r n).snapshot = s.snapshot := rfl
@[simp] theorem State.setCount_events (s : State) (r : RegionId) (n : Nat) : (s.setCount r n).events = s.events := rfl
@[simp] theorem State.setCount_latches (s : State) (r : RegionId) (n : Nat) :
    (s.setCount r n).latches = s.latches := rfl
@[simp] theorem State.setCount_fresh (s : State) (r : RegionId) (n : Nat) : (s.setCount r n).fresh = s.fresh := rfl
@[simp] theorem State.setCount_out (s : State) (r : RegionId) (n : Nat) : (s.setCount r n).out = s.out := rfl

@[simp] theorem State.enqueue_pending (s : State) (op : Operation) : (s.enqueue op).pending = s.pending := rfl
@[simp] theorem State.enqueue_porPin (s : State) (op : Operation) : (s.enqueue op).porPin = s.porPin := rfl
@[simp] theorem State.enqueue_hub (s : State) (op : Operation) : (s.enqueue op).hub = s.hub := rfl
@[simp] theorem State.enqueue_ports (s : State) (op : Operation) : (s.enqueue op).ports = s.ports := rfl
@[simp] theorem State.enqueue_lastGranted (s : State) (op : Operation) :
    (s.enqueue op).lastGranted = s.lastGranted := rfl
@[simp] theorem State.enqueue_urgency (s : State) (op : Operation) : (s.enqueue op).urgency = s.urgency := rfl
@[simp] theorem State.enqueue_dir (s : State) (op : Operation) : (s.enqueue op).dir = s.dir := rfl
@[simp] theorem State.enqueue_slots (s : State) (op : Operation) : (s.enqueue op).slots = s.slots := rfl
@[simp] theorem State.enqueue_drains (s : State) (op : Operation) : (s.enqueue op).drains = s.drains := rfl
@[simp] theorem State.enqueue_res (s : State) (op : Operation) : (s.enqueue op).res = s.res := rfl
@[simp] theorem State.enqueue_resTime (s : State) (op : Operation) : (s.enqueue op).resTime = s.resTime := rfl
@[simp] theorem State.enqueue_notices (s : State) (op : Operation) : (s.enqueue op).notices = s.notices := rfl
@[simp] theorem State.enqueue_noticeTime (s : State) (op : Operation) : (s.enqueue op).noticeTime = s.noticeTime := rfl
@[simp] theorem State.enqueue_fifo (s : State) (op : Operation) : (s.enqueue op).fifo = s.fifo := rfl
@[simp] theorem State.enqueue_regions (s : State) (op : Operation) : (s.enqueue op).regions = s.regions := rfl
@[simp] theorem State.enqueue_dev (s : State) (op : Operation) : (s.enqueue op).dev = s.dev.join s.regions op := rfl
@[simp] theorem State.enqueue_sweep (s : State) (op : Operation) : (s.enqueue op).sweep = s.sweep := rfl
@[simp] theorem State.enqueue_snapshot (s : State) (op : Operation) : (s.enqueue op).snapshot = s.snapshot := rfl
@[simp] theorem State.enqueue_events (s : State) (op : Operation) : (s.enqueue op).events = s.events := rfl
@[simp] theorem State.enqueue_latches (s : State) (op : Operation) : (s.enqueue op).latches = s.latches := rfl
@[simp] theorem State.enqueue_fresh (s : State) (op : Operation) : (s.enqueue op).fresh = s.fresh := rfl
@[simp] theorem State.enqueue_out (s : State) (op : Operation) : (s.enqueue op).out = s.out := rfl

@[simp] theorem State.kick_pending (s : State) : (s.kick).pending = s.pending := rfl
@[simp] theorem State.kick_porPin (s : State) : (s.kick).porPin = s.porPin := rfl
@[simp] theorem State.kick_hub (s : State) : (s.kick).hub = s.hub := rfl
@[simp] theorem State.kick_ports (s : State) : (s.kick).ports = s.ports := rfl
@[simp] theorem State.kick_lastGranted (s : State) : (s.kick).lastGranted = s.lastGranted := rfl
@[simp] theorem State.kick_urgency (s : State) : (s.kick).urgency = s.urgency := rfl
@[simp] theorem State.kick_dir (s : State) : (s.kick).dir = s.dir := rfl
@[simp] theorem State.kick_slots (s : State) : (s.kick).slots = s.slots := rfl
@[simp] theorem State.kick_drains (s : State) : (s.kick).drains = s.drains := rfl
@[simp] theorem State.kick_res (s : State) : (s.kick).res = s.res := rfl
@[simp] theorem State.kick_resTime (s : State) : (s.kick).resTime = s.resTime := rfl
@[simp] theorem State.kick_notices (s : State) : (s.kick).notices = s.notices := rfl
@[simp] theorem State.kick_noticeTime (s : State) : (s.kick).noticeTime = s.noticeTime := rfl
@[simp] theorem State.kick_fifo (s : State) : (s.kick).fifo = s.fifo := rfl
@[simp] theorem State.kick_regions (s : State) : (s.kick).regions = s.regions := rfl
@[simp] theorem State.kick_dev (s : State) : (s.kick).dev = s.dev.kick s.regions := rfl
@[simp] theorem State.kick_sweep (s : State) : (s.kick).sweep = s.sweep := rfl
@[simp] theorem State.kick_snapshot (s : State) : (s.kick).snapshot = s.snapshot := rfl
@[simp] theorem State.kick_events (s : State) : (s.kick).events = s.events := rfl
@[simp] theorem State.kick_latches (s : State) : (s.kick).latches = s.latches := rfl
@[simp] theorem State.kick_fresh (s : State) : (s.kick).fresh = s.fresh := rfl
@[simp] theorem State.kick_out (s : State) : (s.kick).out = s.out := rfl

@[simp] theorem State.makePortOp_pending (s : State) (q : Request) (wt : Bool) :
    (s.makePortOp q wt).pending = s.pending := rfl
@[simp] theorem State.makePortOp_porPin (s : State) (q : Request) (wt : Bool) :
    (s.makePortOp q wt).porPin = s.porPin := rfl
@[simp] theorem State.makePortOp_hub (s : State) (q : Request) (wt : Bool) : (s.makePortOp q wt).hub = s.hub := rfl
@[simp] theorem State.makePortOp_ports (s : State) (q : Request) (wt : Bool) :
    (s.makePortOp q wt).ports = setAt s.ports q.port { s.ports[q.port] with flight := some .portOp } := rfl
@[simp] theorem State.makePortOp_lastGranted (s : State) (q : Request) (wt : Bool) :
    (s.makePortOp q wt).lastGranted = s.lastGranted := rfl
@[simp] theorem State.makePortOp_urgency (s : State) (q : Request) (wt : Bool) :
    (s.makePortOp q wt).urgency = s.urgency := rfl
@[simp] theorem State.makePortOp_dir (s : State) (q : Request) (wt : Bool) : (s.makePortOp q wt).dir = s.dir := rfl
@[simp] theorem State.makePortOp_slots (s : State) (q : Request) (wt : Bool) :
    (s.makePortOp q wt).slots = s.slots := rfl
@[simp] theorem State.makePortOp_drains (s : State) (q : Request) (wt : Bool) :
    (s.makePortOp q wt).drains = s.drains := rfl
@[simp] theorem State.makePortOp_res (s : State) (q : Request) (wt : Bool) : (s.makePortOp q wt).res = s.res := rfl
@[simp] theorem State.makePortOp_resTime (s : State) (q : Request) (wt : Bool) :
    (s.makePortOp q wt).resTime = s.resTime := rfl
@[simp] theorem State.makePortOp_notices (s : State) (q : Request) (wt : Bool) :
    (s.makePortOp q wt).notices = s.notices := rfl
@[simp] theorem State.makePortOp_noticeTime (s : State) (q : Request) (wt : Bool) :
    (s.makePortOp q wt).noticeTime = s.noticeTime := rfl
@[simp] theorem State.makePortOp_fifo (s : State) (q : Request) (wt : Bool) : (s.makePortOp q wt).fifo = s.fifo := rfl
@[simp] theorem State.makePortOp_regions (s : State) (q : Request) (wt : Bool) :
    (s.makePortOp q wt).regions = s.regions := rfl
@[simp] theorem State.makePortOp_dev (s : State) (q : Request) (wt : Bool) :
    (s.makePortOp q wt).dev = s.dev.submit s.regions q.port (q.portOp wt) := rfl
@[simp] theorem State.makePortOp_sweep (s : State) (q : Request) (wt : Bool) :
    (s.makePortOp q wt).sweep = s.sweep := rfl
@[simp] theorem State.makePortOp_snapshot (s : State) (q : Request) (wt : Bool) :
    (s.makePortOp q wt).snapshot = s.snapshot := rfl
@[simp] theorem State.makePortOp_events (s : State) (q : Request) (wt : Bool) :
    (s.makePortOp q wt).events = s.events := rfl
@[simp] theorem State.makePortOp_latches (s : State) (q : Request) (wt : Bool) :
    (s.makePortOp q wt).latches = s.latches := rfl
@[simp] theorem State.makePortOp_fresh (s : State) (q : Request) (wt : Bool) :
    (s.makePortOp q wt).fresh = s.fresh := rfl
@[simp] theorem State.makePortOp_out (s : State) (q : Request) (wt : Bool) : (s.makePortOp q wt).out = s.out := rfl

@[simp] theorem State.releasePlace_pending (s : State) (k : Port) : (s.releasePlace k).pending = s.pending := rfl
@[simp] theorem State.releasePlace_porPin (s : State) (k : Port) : (s.releasePlace k).porPin = s.porPin := rfl
@[simp] theorem State.releasePlace_hub (s : State) (k : Port) : (s.releasePlace k).hub = s.hub := rfl
@[simp] theorem State.releasePlace_ports (s : State) (k : Port) : (s.releasePlace k).ports = s.ports := rfl
@[simp] theorem State.releasePlace_lastGranted (s : State) (k : Port) :
    (s.releasePlace k).lastGranted = s.lastGranted := rfl
@[simp] theorem State.releasePlace_urgency (s : State) (k : Port) : (s.releasePlace k).urgency = s.urgency := rfl
@[simp] theorem State.releasePlace_dir (s : State) (k : Port) : (s.releasePlace k).dir = s.dir := rfl
@[simp] theorem State.releasePlace_slots (s : State) (k : Port) : (s.releasePlace k).slots = s.slots := rfl
@[simp] theorem State.releasePlace_drains (s : State) (k : Port) : (s.releasePlace k).drains = s.drains := rfl
@[simp] theorem State.releasePlace_res (s : State) (k : Port) : (s.releasePlace k).res = s.res := rfl
@[simp] theorem State.releasePlace_resTime (s : State) (k : Port) : (s.releasePlace k).resTime = s.resTime := rfl
@[simp] theorem State.releasePlace_notices (s : State) (k : Port) : (s.releasePlace k).notices = s.notices := rfl
@[simp] theorem State.releasePlace_noticeTime (s : State) (k : Port) :
    (s.releasePlace k).noticeTime = s.noticeTime := rfl
@[simp] theorem State.releasePlace_fifo (s : State) (k : Port) : (s.releasePlace k).fifo = s.fifo := rfl
@[simp] theorem State.releasePlace_regions (s : State) (k : Port) : (s.releasePlace k).regions = s.regions := rfl
@[simp] theorem State.releasePlace_dev (s : State) (k : Port) :
    (s.releasePlace k).dev = s.dev.release s.regions k := rfl
@[simp] theorem State.releasePlace_sweep (s : State) (k : Port) : (s.releasePlace k).sweep = s.sweep := rfl
@[simp] theorem State.releasePlace_snapshot (s : State) (k : Port) : (s.releasePlace k).snapshot = s.snapshot := rfl
@[simp] theorem State.releasePlace_events (s : State) (k : Port) : (s.releasePlace k).events = s.events := rfl
@[simp] theorem State.releasePlace_latches (s : State) (k : Port) : (s.releasePlace k).latches = s.latches := rfl
@[simp] theorem State.releasePlace_fresh (s : State) (k : Port) : (s.releasePlace k).fresh = s.fresh := rfl
@[simp] theorem State.releasePlace_out (s : State) (k : Port) : (s.releasePlace k).out = s.out := rfl

@[simp] theorem State.popHead_pending (s : State) : (s.popHead).pending = s.pending := rfl
@[simp] theorem State.popHead_porPin (s : State) : (s.popHead).porPin = s.porPin := rfl
@[simp] theorem State.popHead_hub (s : State) : (s.popHead).hub = s.hub := rfl
@[simp] theorem State.popHead_ports (s : State) : (s.popHead).ports = s.ports := rfl
@[simp] theorem State.popHead_lastGranted (s : State) : (s.popHead).lastGranted = s.lastGranted := rfl
@[simp] theorem State.popHead_urgency (s : State) : (s.popHead).urgency = s.urgency := rfl
@[simp] theorem State.popHead_dir (s : State) : (s.popHead).dir = s.dir := rfl
@[simp] theorem State.popHead_slots (s : State) : (s.popHead).slots = s.slots := rfl
@[simp] theorem State.popHead_drains (s : State) : (s.popHead).drains = s.drains := rfl
@[simp] theorem State.popHead_res (s : State) : (s.popHead).res = s.res := rfl
@[simp] theorem State.popHead_resTime (s : State) : (s.popHead).resTime = s.resTime := rfl
@[simp] theorem State.popHead_notices (s : State) : (s.popHead).notices = s.notices := rfl
@[simp] theorem State.popHead_noticeTime (s : State) : (s.popHead).noticeTime = s.noticeTime := rfl
@[simp] theorem State.popHead_fifo (s : State) : (s.popHead).fifo = s.fifo := rfl
@[simp] theorem State.popHead_regions (s : State) : (s.popHead).regions = s.regions := rfl
@[simp] theorem State.popHead_dev (s : State) : (s.popHead).dev = s.dev.popHead := rfl
@[simp] theorem State.popHead_sweep (s : State) : (s.popHead).sweep = s.sweep := rfl
@[simp] theorem State.popHead_snapshot (s : State) : (s.popHead).snapshot = s.snapshot := rfl
@[simp] theorem State.popHead_events (s : State) : (s.popHead).events = s.events := rfl
@[simp] theorem State.popHead_latches (s : State) : (s.popHead).latches = s.latches := rfl
@[simp] theorem State.popHead_fresh (s : State) : (s.popHead).fresh = s.fresh := rfl
@[simp] theorem State.popHead_out (s : State) : (s.popHead).out = s.out := rfl

@[simp] theorem State.setPhase_pending (s : State) (p : DevPhase) : (s.setPhase p).pending = s.pending := rfl
@[simp] theorem State.setPhase_porPin (s : State) (p : DevPhase) : (s.setPhase p).porPin = s.porPin := rfl
@[simp] theorem State.setPhase_hub (s : State) (p : DevPhase) : (s.setPhase p).hub = s.hub := rfl
@[simp] theorem State.setPhase_ports (s : State) (p : DevPhase) : (s.setPhase p).ports = s.ports := rfl
@[simp] theorem State.setPhase_lastGranted (s : State) (p : DevPhase) :
    (s.setPhase p).lastGranted = s.lastGranted := rfl
@[simp] theorem State.setPhase_urgency (s : State) (p : DevPhase) : (s.setPhase p).urgency = s.urgency := rfl
@[simp] theorem State.setPhase_dir (s : State) (p : DevPhase) : (s.setPhase p).dir = s.dir := rfl
@[simp] theorem State.setPhase_slots (s : State) (p : DevPhase) : (s.setPhase p).slots = s.slots := rfl
@[simp] theorem State.setPhase_drains (s : State) (p : DevPhase) : (s.setPhase p).drains = s.drains := rfl
@[simp] theorem State.setPhase_res (s : State) (p : DevPhase) : (s.setPhase p).res = s.res := rfl
@[simp] theorem State.setPhase_resTime (s : State) (p : DevPhase) : (s.setPhase p).resTime = s.resTime := rfl
@[simp] theorem State.setPhase_notices (s : State) (p : DevPhase) : (s.setPhase p).notices = s.notices := rfl
@[simp] theorem State.setPhase_noticeTime (s : State) (p : DevPhase) : (s.setPhase p).noticeTime = s.noticeTime := rfl
@[simp] theorem State.setPhase_fifo (s : State) (p : DevPhase) : (s.setPhase p).fifo = s.fifo := rfl
@[simp] theorem State.setPhase_regions (s : State) (p : DevPhase) : (s.setPhase p).regions = s.regions := rfl
@[simp] theorem State.setPhase_dev (s : State) (p : DevPhase) : (s.setPhase p).dev = { s.dev with phase := p } := rfl
@[simp] theorem State.setPhase_sweep (s : State) (p : DevPhase) : (s.setPhase p).sweep = s.sweep := rfl
@[simp] theorem State.setPhase_snapshot (s : State) (p : DevPhase) : (s.setPhase p).snapshot = s.snapshot := rfl
@[simp] theorem State.setPhase_events (s : State) (p : DevPhase) : (s.setPhase p).events = s.events := rfl
@[simp] theorem State.setPhase_latches (s : State) (p : DevPhase) : (s.setPhase p).latches = s.latches := rfl
@[simp] theorem State.setPhase_fresh (s : State) (p : DevPhase) : (s.setPhase p).fresh = s.fresh := rfl
@[simp] theorem State.setPhase_out (s : State) (p : DevPhase) : (s.setPhase p).out = s.out := rfl

@[simp] theorem State.addDrain_pending (s : State) (n : DrainKind) (l : LineAddr) (h : Held) :
    (s.addDrain n l h).pending = s.pending := rfl
@[simp] theorem State.addDrain_porPin (s : State) (n : DrainKind) (l : LineAddr) (h : Held) :
    (s.addDrain n l h).porPin = s.porPin := rfl
@[simp] theorem State.addDrain_hub (s : State) (n : DrainKind) (l : LineAddr) (h : Held) :
    (s.addDrain n l h).hub = s.hub := rfl
@[simp] theorem State.addDrain_ports (s : State) (n : DrainKind) (l : LineAddr) (h : Held) :
    (s.addDrain n l h).ports = s.ports := rfl
@[simp] theorem State.addDrain_lastGranted (s : State) (n : DrainKind) (l : LineAddr) (h : Held) :
    (s.addDrain n l h).lastGranted = s.lastGranted := rfl
@[simp] theorem State.addDrain_urgency (s : State) (n : DrainKind) (l : LineAddr) (h : Held) :
    (s.addDrain n l h).urgency = s.urgency := rfl
@[simp] theorem State.addDrain_dir (s : State) (n : DrainKind) (l : LineAddr) (h : Held) :
    (s.addDrain n l h).dir = s.dir := rfl
@[simp] theorem State.addDrain_slots (s : State) (n : DrainKind) (l : LineAddr) (h : Held) :
    (s.addDrain n l h).slots = s.slots := rfl
@[simp] theorem State.addDrain_drains (s : State) (n : DrainKind) (l : LineAddr) (h : Held) :
    (s.addDrain n l h).drains = s.drains ++ [s.newDrain n l h] := rfl
@[simp] theorem State.addDrain_res (s : State) (n : DrainKind) (l : LineAddr) (h : Held) :
    (s.addDrain n l h).res = s.res := rfl
@[simp] theorem State.addDrain_resTime (s : State) (n : DrainKind) (l : LineAddr) (h : Held) :
    (s.addDrain n l h).resTime = s.resTime := rfl
@[simp] theorem State.addDrain_notices (s : State) (n : DrainKind) (l : LineAddr) (h : Held) :
    (s.addDrain n l h).notices = s.notices := rfl
@[simp] theorem State.addDrain_noticeTime (s : State) (n : DrainKind) (l : LineAddr) (h : Held) :
    (s.addDrain n l h).noticeTime = s.noticeTime := rfl
@[simp] theorem State.addDrain_fifo (s : State) (n : DrainKind) (l : LineAddr) (h : Held) :
    (s.addDrain n l h).fifo = s.fifo := rfl
@[simp] theorem State.addDrain_regions (s : State) (n : DrainKind) (l : LineAddr) (h : Held) :
    (s.addDrain n l h).regions = s.regions := rfl
@[simp] theorem State.addDrain_dev (s : State) (n : DrainKind) (l : LineAddr) (h : Held) :
    (s.addDrain n l h).dev = s.dev.join s.regions (s.newDrain n l h).op := rfl
@[simp] theorem State.addDrain_sweep (s : State) (n : DrainKind) (l : LineAddr) (h : Held) :
    (s.addDrain n l h).sweep = s.sweep := rfl
@[simp] theorem State.addDrain_snapshot (s : State) (n : DrainKind) (l : LineAddr) (h : Held) :
    (s.addDrain n l h).snapshot = s.snapshot := rfl
@[simp] theorem State.addDrain_events (s : State) (n : DrainKind) (l : LineAddr) (h : Held) :
    (s.addDrain n l h).events = s.events := rfl
@[simp] theorem State.addDrain_latches (s : State) (n : DrainKind) (l : LineAddr) (h : Held) :
    (s.addDrain n l h).latches = s.latches := rfl
@[simp] theorem State.addDrain_fresh (s : State) (n : DrainKind) (l : LineAddr) (h : Held) :
    (s.addDrain n l h).fresh = s.fresh := rfl
@[simp] theorem State.addDrain_out (s : State) (n : DrainKind) (l : LineAddr) (h : Held) :
    (s.addDrain n l h).out = s.out := rfl

@[simp] theorem State.dropDrain_pending (s : State) (p : DrainPlace) : (s.dropDrain p).pending = s.pending := rfl
@[simp] theorem State.dropDrain_porPin (s : State) (p : DrainPlace) : (s.dropDrain p).porPin = s.porPin := rfl
@[simp] theorem State.dropDrain_hub (s : State) (p : DrainPlace) : (s.dropDrain p).hub = s.hub := rfl
@[simp] theorem State.dropDrain_ports (s : State) (p : DrainPlace) : (s.dropDrain p).ports = s.ports := rfl
@[simp] theorem State.dropDrain_lastGranted (s : State) (p : DrainPlace) :
    (s.dropDrain p).lastGranted = s.lastGranted := rfl
@[simp] theorem State.dropDrain_urgency (s : State) (p : DrainPlace) : (s.dropDrain p).urgency = s.urgency := rfl
@[simp] theorem State.dropDrain_dir (s : State) (p : DrainPlace) : (s.dropDrain p).dir = s.dir := rfl
@[simp] theorem State.dropDrain_slots (s : State) (p : DrainPlace) : (s.dropDrain p).slots = s.slots := rfl
@[simp] theorem State.dropDrain_drains (s : State) (p : DrainPlace) :
    (s.dropDrain p).drains = s.drains.filter fun e => e.place != p := rfl
@[simp] theorem State.dropDrain_res (s : State) (p : DrainPlace) : (s.dropDrain p).res = s.res := rfl
@[simp] theorem State.dropDrain_resTime (s : State) (p : DrainPlace) : (s.dropDrain p).resTime = s.resTime := rfl
@[simp] theorem State.dropDrain_notices (s : State) (p : DrainPlace) : (s.dropDrain p).notices = s.notices := rfl
@[simp] theorem State.dropDrain_noticeTime (s : State) (p : DrainPlace) :
    (s.dropDrain p).noticeTime = s.noticeTime := rfl
@[simp] theorem State.dropDrain_fifo (s : State) (p : DrainPlace) : (s.dropDrain p).fifo = s.fifo := rfl
@[simp] theorem State.dropDrain_regions (s : State) (p : DrainPlace) : (s.dropDrain p).regions = s.regions := rfl
@[simp] theorem State.dropDrain_dev (s : State) (p : DrainPlace) : (s.dropDrain p).dev = s.dev := rfl
@[simp] theorem State.dropDrain_sweep (s : State) (p : DrainPlace) : (s.dropDrain p).sweep = s.sweep.drainLeft := rfl
@[simp] theorem State.dropDrain_snapshot (s : State) (p : DrainPlace) : (s.dropDrain p).snapshot = s.snapshot := rfl
@[simp] theorem State.dropDrain_events (s : State) (p : DrainPlace) : (s.dropDrain p).events = s.events := rfl
@[simp] theorem State.dropDrain_latches (s : State) (p : DrainPlace) : (s.dropDrain p).latches = s.latches := rfl
@[simp] theorem State.dropDrain_fresh (s : State) (p : DrainPlace) : (s.dropDrain p).fresh = s.fresh := rfl
@[simp] theorem State.dropDrain_out (s : State) (p : DrainPlace) : (s.dropDrain p).out = s.out := rfl

@[simp] theorem State.holdDrain_pending (s : State) (p : DrainPlace) : (s.holdDrain p).pending = s.pending := rfl
@[simp] theorem State.holdDrain_porPin (s : State) (p : DrainPlace) : (s.holdDrain p).porPin = s.porPin := rfl
@[simp] theorem State.holdDrain_hub (s : State) (p : DrainPlace) : (s.holdDrain p).hub = s.hub := rfl
@[simp] theorem State.holdDrain_ports (s : State) (p : DrainPlace) : (s.holdDrain p).ports = s.ports := rfl
@[simp] theorem State.holdDrain_lastGranted (s : State) (p : DrainPlace) :
    (s.holdDrain p).lastGranted = s.lastGranted := rfl
@[simp] theorem State.holdDrain_urgency (s : State) (p : DrainPlace) : (s.holdDrain p).urgency = s.urgency := rfl
@[simp] theorem State.holdDrain_dir (s : State) (p : DrainPlace) : (s.holdDrain p).dir = s.dir := rfl
@[simp] theorem State.holdDrain_slots (s : State) (p : DrainPlace) : (s.holdDrain p).slots = s.slots := rfl
@[simp] theorem State.holdDrain_drains (s : State) (p : DrainPlace) :
    (s.holdDrain p).drains = s.drains.map fun e => if e.place = p then { e with held := true } else e := rfl
@[simp] theorem State.holdDrain_res (s : State) (p : DrainPlace) : (s.holdDrain p).res = s.res := rfl
@[simp] theorem State.holdDrain_resTime (s : State) (p : DrainPlace) : (s.holdDrain p).resTime = s.resTime := rfl
@[simp] theorem State.holdDrain_notices (s : State) (p : DrainPlace) : (s.holdDrain p).notices = s.notices := rfl
@[simp] theorem State.holdDrain_noticeTime (s : State) (p : DrainPlace) :
    (s.holdDrain p).noticeTime = s.noticeTime := rfl
@[simp] theorem State.holdDrain_fifo (s : State) (p : DrainPlace) : (s.holdDrain p).fifo = s.fifo := rfl
@[simp] theorem State.holdDrain_regions (s : State) (p : DrainPlace) : (s.holdDrain p).regions = s.regions := rfl
@[simp] theorem State.holdDrain_dev (s : State) (p : DrainPlace) : (s.holdDrain p).dev = s.dev := rfl
@[simp] theorem State.holdDrain_sweep (s : State) (p : DrainPlace) : (s.holdDrain p).sweep = s.sweep := rfl
@[simp] theorem State.holdDrain_snapshot (s : State) (p : DrainPlace) : (s.holdDrain p).snapshot = s.snapshot := rfl
@[simp] theorem State.holdDrain_events (s : State) (p : DrainPlace) : (s.holdDrain p).events = s.events := rfl
@[simp] theorem State.holdDrain_latches (s : State) (p : DrainPlace) : (s.holdDrain p).latches = s.latches := rfl
@[simp] theorem State.holdDrain_fresh (s : State) (p : DrainPlace) : (s.holdDrain p).fresh = s.fresh := rfl
@[simp] theorem State.holdDrain_out (s : State) (p : DrainPlace) : (s.holdDrain p).out = s.out := rfl

@[simp] theorem State.setSlot_pending (s : State) (i : SlotId) (f : Option Fill) :
    (s.setSlot i f).pending = s.pending := rfl
@[simp] theorem State.setSlot_porPin (s : State) (i : SlotId) (f : Option Fill) :
    (s.setSlot i f).porPin = s.porPin := rfl
@[simp] theorem State.setSlot_hub (s : State) (i : SlotId) (f : Option Fill) : (s.setSlot i f).hub = s.hub := rfl
@[simp] theorem State.setSlot_ports (s : State) (i : SlotId) (f : Option Fill) : (s.setSlot i f).ports = s.ports := rfl
@[simp] theorem State.setSlot_lastGranted (s : State) (i : SlotId) (f : Option Fill) :
    (s.setSlot i f).lastGranted = s.lastGranted := rfl
@[simp] theorem State.setSlot_urgency (s : State) (i : SlotId) (f : Option Fill) :
    (s.setSlot i f).urgency = s.urgency := rfl
@[simp] theorem State.setSlot_dir (s : State) (i : SlotId) (f : Option Fill) : (s.setSlot i f).dir = s.dir := rfl
@[simp] theorem State.setSlot_slots (s : State) (i : SlotId) (f : Option Fill) :
    (s.setSlot i f).slots = setAt s.slots i f := rfl
@[simp] theorem State.setSlot_drains (s : State) (i : SlotId) (f : Option Fill) :
    (s.setSlot i f).drains = s.drains := rfl
@[simp] theorem State.setSlot_res (s : State) (i : SlotId) (f : Option Fill) : (s.setSlot i f).res = s.res := rfl
@[simp] theorem State.setSlot_resTime (s : State) (i : SlotId) (f : Option Fill) :
    (s.setSlot i f).resTime = s.resTime := rfl
@[simp] theorem State.setSlot_notices (s : State) (i : SlotId) (f : Option Fill) :
    (s.setSlot i f).notices = s.notices := rfl
@[simp] theorem State.setSlot_noticeTime (s : State) (i : SlotId) (f : Option Fill) :
    (s.setSlot i f).noticeTime = s.noticeTime := rfl
@[simp] theorem State.setSlot_fifo (s : State) (i : SlotId) (f : Option Fill) : (s.setSlot i f).fifo = s.fifo := rfl
@[simp] theorem State.setSlot_regions (s : State) (i : SlotId) (f : Option Fill) :
    (s.setSlot i f).regions = s.regions := rfl
@[simp] theorem State.setSlot_dev (s : State) (i : SlotId) (f : Option Fill) : (s.setSlot i f).dev = s.dev := rfl
@[simp] theorem State.setSlot_sweep (s : State) (i : SlotId) (f : Option Fill) : (s.setSlot i f).sweep = s.sweep := rfl
@[simp] theorem State.setSlot_snapshot (s : State) (i : SlotId) (f : Option Fill) :
    (s.setSlot i f).snapshot = s.snapshot := rfl
@[simp] theorem State.setSlot_events (s : State) (i : SlotId) (f : Option Fill) :
    (s.setSlot i f).events = s.events := rfl
@[simp] theorem State.setSlot_latches (s : State) (i : SlotId) (f : Option Fill) :
    (s.setSlot i f).latches = s.latches := rfl
@[simp] theorem State.setSlot_fresh (s : State) (i : SlotId) (f : Option Fill) : (s.setSlot i f).fresh = s.fresh := rfl
@[simp] theorem State.setSlot_out (s : State) (i : SlotId) (f : Option Fill) : (s.setSlot i f).out = s.out := rfl

@[simp] theorem State.elapse_pending (s : State) (d : Nat) : (s.elapse d).pending = s.pending := rfl
@[simp] theorem State.elapse_porPin (s : State) (d : Nat) : (s.elapse d).porPin = s.porPin := rfl
@[simp] theorem State.elapse_hub (s : State) (d : Nat) : (s.elapse d).hub = s.hub := rfl
@[simp] theorem State.elapse_ports (s : State) (d : Nat) : (s.elapse d).ports = s.ports := rfl
@[simp] theorem State.elapse_lastGranted (s : State) (d : Nat) : (s.elapse d).lastGranted = s.lastGranted := rfl
@[simp] theorem State.elapse_urgency (s : State) (d : Nat) : (s.elapse d).urgency = s.urgency := rfl
@[simp] theorem State.elapse_dir (s : State) (d : Nat) : (s.elapse d).dir = s.dir := rfl
@[simp] theorem State.elapse_slots (s : State) (d : Nat) : (s.elapse d).slots = s.slots := rfl
@[simp] theorem State.elapse_drains (s : State) (d : Nat) : (s.elapse d).drains = s.drains := rfl
@[simp] theorem State.elapse_res (s : State) (d : Nat) :
    (s.elapse d).res = mapAll s.res fun r => r.map (Reservation.age d) := rfl
@[simp] theorem State.elapse_resTime (s : State) (d : Nat) : (s.elapse d).resTime = s.resTime := rfl
@[simp] theorem State.elapse_notices (s : State) (d : Nat) :
    (s.elapse d).notices = mapAll s.notices (NoticeQueue.age d) := rfl
@[simp] theorem State.elapse_noticeTime (s : State) (d : Nat) : (s.elapse d).noticeTime = s.noticeTime := rfl
@[simp] theorem State.elapse_fifo (s : State) (d : Nat) : (s.elapse d).fifo = s.fifo := rfl
@[simp] theorem State.elapse_regions (s : State) (d : Nat) :
    (s.elapse d).regions = mapAll s.regions (Region.age d) := rfl
@[simp] theorem State.elapse_dev (s : State) (d : Nat) :
    (s.elapse d).dev = { s.dev with phase := s.dev.phase.age d } := rfl
@[simp] theorem State.elapse_sweep (s : State) (d : Nat) : (s.elapse d).sweep = s.sweep := rfl
@[simp] theorem State.elapse_snapshot (s : State) (d : Nat) : (s.elapse d).snapshot = s.snapshot := rfl
@[simp] theorem State.elapse_events (s : State) (d : Nat) : (s.elapse d).events = s.events := rfl
@[simp] theorem State.elapse_latches (s : State) (d : Nat) : (s.elapse d).latches = s.latches := rfl
@[simp] theorem State.elapse_fresh (s : State) (d : Nat) : (s.elapse d).fresh = s.fresh := rfl
@[simp] theorem State.elapse_out (s : State) (d : Nat) : (s.elapse d).out = s.out := rfl

@[simp] theorem State.withPending_pending (s : State) (q : List Instr) : (s.withPending q).pending = q := rfl
@[simp] theorem State.withPending_porPin (s : State) (q : List Instr) : (s.withPending q).porPin = s.porPin := rfl
@[simp] theorem State.withPending_hub (s : State) (q : List Instr) : (s.withPending q).hub = s.hub := rfl
@[simp] theorem State.withPending_ports (s : State) (q : List Instr) : (s.withPending q).ports = s.ports := rfl
@[simp] theorem State.withPending_lastGranted (s : State) (q : List Instr) :
    (s.withPending q).lastGranted = s.lastGranted := rfl
@[simp] theorem State.withPending_urgency (s : State) (q : List Instr) : (s.withPending q).urgency = s.urgency := rfl
@[simp] theorem State.withPending_dir (s : State) (q : List Instr) : (s.withPending q).dir = s.dir := rfl
@[simp] theorem State.withPending_slots (s : State) (q : List Instr) : (s.withPending q).slots = s.slots := rfl
@[simp] theorem State.withPending_drains (s : State) (q : List Instr) : (s.withPending q).drains = s.drains := rfl
@[simp] theorem State.withPending_res (s : State) (q : List Instr) : (s.withPending q).res = s.res := rfl
@[simp] theorem State.withPending_resTime (s : State) (q : List Instr) : (s.withPending q).resTime = s.resTime := rfl
@[simp] theorem State.withPending_notices (s : State) (q : List Instr) : (s.withPending q).notices = s.notices := rfl
@[simp] theorem State.withPending_noticeTime (s : State) (q : List Instr) :
    (s.withPending q).noticeTime = s.noticeTime := rfl
@[simp] theorem State.withPending_fifo (s : State) (q : List Instr) : (s.withPending q).fifo = s.fifo := rfl
@[simp] theorem State.withPending_regions (s : State) (q : List Instr) : (s.withPending q).regions = s.regions := rfl
@[simp] theorem State.withPending_dev (s : State) (q : List Instr) : (s.withPending q).dev = s.dev := rfl
@[simp] theorem State.withPending_sweep (s : State) (q : List Instr) : (s.withPending q).sweep = s.sweep := rfl
@[simp] theorem State.withPending_snapshot (s : State) (q : List Instr) : (s.withPending q).snapshot = s.snapshot := rfl
@[simp] theorem State.withPending_events (s : State) (q : List Instr) : (s.withPending q).events = s.events := rfl
@[simp] theorem State.withPending_latches (s : State) (q : List Instr) : (s.withPending q).latches = s.latches := rfl
@[simp] theorem State.withPending_fresh (s : State) (q : List Instr) : (s.withPending q).fresh = s.fresh := rfl
@[simp] theorem State.withPending_out (s : State) (q : List Instr) : (s.withPending q).out = s.out := rfl

end Sys2Proof.Machine
end

