-- ==== Sys2Proof/Laws/Ops.lean ====
section
/-! SUPPORT. What each shared operation does, said once: vectors, one happening, the Intake Arbiter's grant and the
intake checks, the control window's checks, lookup and the Reservation Table's answers. -/

namespace Sys2Proof.Machine

/-! ## Vectors -/

theorem setAt_getElem {α : Type} {n : Nat} (v : Vector α n) (i j : Fin n) (a : α) :
    (setAt v i a)[j] = if i = j then a else v[j] := by
  simp [setAt, Vector.getElem_set, Fin.ext_iff]

@[simp] theorem setAt_getElem_self {α : Type} {n : Nat} (v : Vector α n) (i : Fin n) (a : α) : (setAt v i a)[i] = a := by
  simp [setAt]

theorem setAt_getElem_ne {α : Type} {n : Nat} (v : Vector α n) {i j : Fin n} (h : i ≠ j) (a : α) :
    (setAt v i a)[j] = v[j] := by
  rw [setAt_getElem, if_neg h]

@[simp] theorem mapAll_getElem {α β : Type} {n : Nat} (v : Vector α n) (f : α → β) (i : Fin n) :
    (mapAll v f)[i] = f v[i] := by
  simp [mapAll]

@[simp] theorem setAt_self {α : Type} {n : Nat} (v : Vector α n) (i : Fin n) : setAt v i v[i] = v := by
  simp [setAt]

@[simp] theorem setAt_setAt {α : Type} {n : Nat} (v : Vector α n) (i : Fin n) (a b : α) :
    setAt (setAt v i a) i b = setAt v i b := by
  simp [setAt]

/-! ## One happening -/

/-- A happening that comes about: the outputs of the one before give way, and its effect is applied. -/
theorem happen_of {s : State} {p : Bool} {f : State → State} (hp : s.porPin = false) (h : p = true) :
    happen s p f = .next (f s.quiet) := by
  simp [happen, hp, h]

/-- A happening that cannot come about leaves the state as it was. -/
theorem happen_not {s : State} {p : Bool} {f : State → State} (h : p = false) : happen s p f = .next s := by
  simp [happen, h]

/-- Nothing comes about while the power-on reset pin is asserted. -/
theorem happen_pin {s : State} {p : Bool} {f : State → State} (h : s.porPin = true) : happen s p f = .next s := by
  simp [happen, h]

/-- All that a happening can do. -/
theorem happen_cases (s : State) (p : Bool) (f : State → State) :
    happen s p f = .next s ∨ (s.porPin = false ∧ p = true ∧ happen s p f = .next (f s.quiet)) := by
  cases hp : s.porPin <;> cases p <;> simp [happen, hp]

/-! ## Responses -/

/-- A port after a response, in the terms of R13. -/
theorem answered_eq_idleAfter (p : MasterPort) (r : Response) : p.answered r = p.idleAfter r := by
  cases r <;> rfl

/-- A transaction taken and answered, and nothing else. -/
theorem taken_respond (s : State) (k : Port) (r : Response) : (s.taken k).respond k r = s.answering k r := by
  simp [State.taken, State.respond, State.answering, outputs, answered_eq_idleAfter]

/-- A transaction taken and placed, and nothing else. -/
theorem taken_place (s : State) (k : Port) (p : Placement) : (s.taken k).place k p = s.placing k p := rfl

/-! ## The granted transaction -/

/-- The grant depends on no output. -/
@[simp] theorem State.quiet_granted (s : State) : s.quiet.granted = s.granted := rfl

/-- A port request that the command names is taken. -/
theorem takeRequest_of {s : State} {k : Port} {t : Transaction} {named : Transaction → Bool}
    {f : State → Port → Transaction → State} (h : s.takes k t) (hn : named t = true) :
    takeRequest s named f = .next (f (s.taken k) k t) := by
  have hg : s.grantNamed named = true := by simp [State.grantNamed, h.2, hn]
  rw [takeRequest, happen_of h.1 hg, State.takeGranted, State.quiet_granted, h.2]
  rfl

/-- All that a command at the directory can do: nothing, or take the granted transaction it names. -/
theorem takeRequest_cases (s : State) (named : Transaction → Bool) (f : State → Port → Transaction → State) :
    takeRequest s named f = .next s ∨
      ∃ k t, s.takes k t ∧ named t = true ∧ takeRequest s named f = .next (f (s.taken k) k t) := by
  rcases happen_cases s (s.grantNamed named) fun s => s.takeGranted f with h | ⟨hp, hg, -⟩
  · exact .inl h
  · cases hs : s.granted with
    | none => simp [State.grantNamed, hs] at hg
    | some x =>
      have hn : named x.2 = true := by simpa [State.grantNamed, hs] using hg
      have ht : s.takes x.1 x.2 := ⟨hp, by rw [hs]⟩
      exact .inr ⟨x.1, x.2, ht, hn, takeRequest_of ht hn⟩

/-- The command of a transaction's kind runs the intake checks on it. -/
theorem exec_command {s : State} {k : Port} {t : Transaction} (h : s.takes k t) :
    exec t.kind.command s = .next ((s.taken k).intake k t) := by
  cases hk : t.kind <;>
    simp only [Kind.command, exec, execRead, execWrite, execLineRead, execLineWrite, execReserveRead,
      execReleaseWrite, execRelease] <;>
    exact takeRequest_of h (by rw [hk]; rfl)

/-- A transaction that passes steps 1 to 5 goes to the lookup. -/
theorem intake_of_reaches {s : State} {k : Port} {t : Transaction} {r : RegionId} (h : s.reaches k t r) :
    (s.taken k).intake k t = (s.taken k).directory { port := k, txn := t, region := r } := by
  obtain ⟨-, hr, hw, hl, hg, hc⟩ := h
  have h1 : (s.taken k).hub = .run := hr
  have h4 : (s.taken k).regionAt t.addr = some r := hg
  have h5 : (s.taken k).regions = s.regions := rfl
  have h3 : (t.kind.usesLanes && !legalShape t.lanes) = false := by
    cases hu : t.kind.usesLanes
    · rfl
    · simp [hl hu]
  have h6 : (t.kind.isReservation && !s.regions[r].cfg.cacheable) = false := by
    cases hu : t.kind.isReservation
    · rfl
    · rw [hc hu]
      rfl
  simp [-Fin.getElem_fin, State.intake, h1, hw, h3, h4, h5, h6, -Bool.and_eq_true, -Bool.and_eq_false_imp]

/-- The command of a transaction that passes steps 1 to 5 is the lookup and what follows it. -/
theorem exec_reaches {s : State} {k : Port} {t : Transaction} {r : RegionId} (h : s.reaches k t r) :
    exec t.kind.command s = .next ((s.taken k).directory { port := k, txn := t, region := r }) := by
  rw [exec_command h.1, intake_of_reaches h]

/-- A hit is served. -/
theorem directory_of_hits {s : State} {q : Request} {w : WayIdx} {h : Held} (hh : s.hits q.txn.line w h) :
    s.directory q = s.serveHeld q w h := by
  obtain ⟨hl, he⟩ := hh
  unfold State.directory
  rw [hl]
  cases hs : s.entry (setOf q.txn.line) w with
  | invalid => simp [hs, Entry.held?] at he
  | filling t r i => simp [hs, Entry.held?] at he
  | clean x =>
    simp only [hs, Entry.held?, Option.some.injEq] at he
    subst he
    simp [State.serve, hs, Entry.held?]
  | dirty x =>
    simp only [hs, Entry.held?, Option.some.injEq] at he
    subst he
    simp [State.serve, hs, Entry.held?]

/-- The command of a transaction that hits is its hit service. -/
theorem exec_hits {s : State} {k : Port} {t : Transaction} {r : RegionId} {w : WayIdx} {h : Held}
    (hr : s.reaches k t r) (hh : s.hits t.line w h) :
    exec t.kind.command s = .next ((s.taken k).serveHeld { port := k, txn := t, region := r } w h) := by
  rw [exec_reaches hr]
  exact congrArg _ (directory_of_hits (s := s.taken k) (q := { port := k, txn := t, region := r }) hh)

/-- The command of a transaction that misses is the miss path, or LATE for a release. -/
theorem exec_miss {s : State} {k : Port} {t : Transaction} {r : RegionId} (hr : s.reaches k t r)
    (hm : s.lookup t.line = none) :
    exec t.kind.command s = .next ((s.taken k).miss { port := k, txn := t, region := r }) := by
  rw [exec_reaches hr]
  have h : (s.taken k).lookup t.line = none := hm
  simp [State.directory, h]

/-! ## Accesses to the control window -/

/-- An access that passes steps 1 to 4 of R179 has its register's effect. -/
theorem checkedAccess_of {s : State} {k : Port} {t : Transaction} {g : Reg} {effect : State → State}
    (h : s.accesses k t g) (hk : t.kind = .read ∨ t.kind = .write)
    (hw : t.kind = .write → s.ports[k].permission = true ∧ g.access ≠ .readOnly) :
    (s.taken k).checkedAccess k t effect = effect (s.taken k) := by
  obtain ⟨-, -, hl, hg⟩ := h
  have hn : (s.taken k).accessRefusal k t = none := by
    have hp : (s.taken k).ports = s.ports := rfl
    rcases hk with hk | hk
    · simp [State.accessRefusal, hk, hl, hg]
    · obtain ⟨h1, h2⟩ := hw hk
      simp [-Fin.getElem_fin, State.accessRefusal, hk, hl, hg, hp, h1, h2]
  simp [State.checkedAccess, hn]

/-- A command row of the window that a granted WRITE fits has its own effect. -/
theorem takeWrite_of {s : State} {k : Port} {g : Reg} {v : Word} {named : Reg → Bool} {value : Word → Bool}
    {effect : State → Port → Word → State} (h : s.writes k g v) (hg : named g = true) (hv : value v = true) :
    takeWrite s named value effect = .next (effect (s.taken k) k v) := by
  obtain ⟨t, ha, hk, rfl, hp, hr⟩ := h
  have hn : writesReg named value t = true := by
    obtain ⟨-, hw, -, hreg⟩ := ha
    simp [writesReg, hk, hw, hreg, hg, hv]
  rw [takeWrite, takeRequest_of ha.1 hn]
  exact congrArg _ (checkedAccess_of ha (.inr hk) fun _ => ⟨hp, hr⟩)

/-! ## Lookup and the Reservation Table -/

/-- A way that the lookup finds holds the line's tag (R27). -/
theorem lookup_tag {s : State} {l : LineAddr} {w : WayIdx} (h : s.lookup l = some w) :
    (s.entry (setOf l) w).tag? = some (tagOf l) := by
  simpa using List.find?_some h

/-- An entry found for a line is HELD for it (R78). -/
theorem resOf_reserves {s : State} {l : LineAddr} {i : ResId} (h : s.resOf l = some i) :
    reserves l s.res[i] = true := by
  simpa using List.find?_some h

/-- The FREE entry found is FREE (R81). -/
theorem freeRes_free {s : State} {i : ResId} (h : s.freeRes = some i) : s.res[i] = none := by
  simpa using List.find?_some h

/-- The FREE fill slot found is FREE (R48). -/
theorem freeSlot_free {s : State} {i : SlotId} (h : s.freeSlot = some i) : s.slots[i] = none := by
  simpa using List.find?_some h

/-! ## Timers -/

/-- The time left on every running timer is among the times left. -/
theorem mem_timesLeft {s : State} {n : Nat} : n ∈ s.timesLeft ↔
    n ∈ s.dev.phase.left ∨ (∃ k : Port, s.notices[k].queue ≠ [] ∧ n ∈ s.notices[k].timer) ∨
      (∃ e : ResId, ∃ x ∈ s.res[e], n = x.remaining) ∨ ∃ r : RegionId, n ∈ s.regions[r].probeTimer := by
  have hp : ∀ k : Port, k ∈ allPorts := by decide
  have he : ∀ e : ResId, e ∈ allRes := by decide
  have hr : ∀ r : RegionId, r ∈ allRegions := by decide
  simp only [State.timesLeft, List.mem_append, List.mem_filterMap, Option.mem_toList, Option.mem_def, hp, he, hr,
    true_and, State.resLeft, Option.map_eq_some_iff, NoticeQueue.left, List.isEmpty_iff, or_assoc]
  refine or_congr Iff.rfl (or_congr (exists_congr fun k => ?_) (or_congr (exists_congr fun e => ?_) Iff.rfl))
  · simp
  · exact exists_congr fun x => and_congr Iff.rfl eq_comm

/-- A timer with `n` µs left runs out exactly when no running timer has less left (R197). -/
theorem runsOut_iff {s : State} {n : Nat} : s.runsOut (some n) = true ↔ s.noneSooner n := by
  simp only [State.runsOut, List.all_eq_true, decide_eq_true_eq, mem_timesLeft, State.noneSooner]
  constructor
  · exact fun h => ⟨fun m hm => h m (.inl hm), fun k hk m hm => h m (.inr (.inl ⟨k, hk, hm⟩)),
      fun e x hx => h _ (.inr (.inr (.inl ⟨e, x, hx, rfl⟩))), fun r m hm => h m (.inr (.inr (.inr ⟨r, hm⟩)))⟩
  · rintro ⟨h1, h2, h3, h4⟩ m (hm | ⟨k, hk, hm⟩ | ⟨e, x, hx, rfl⟩ | ⟨r, hm⟩)
    · exact h1 m hm
    · exact h2 k hk m hm
    · exact h3 e x hx
    · exact h4 r m hm

/-- No running out is due exactly while every running timer has time left (R197). -/
theorem dueCommand_eq_none {s : State} : s.dueCommand = none ↔ s.noneSooner 1 := by
  have h : s.noneSooner 1 ↔ ∀ m ∈ s.timesLeft, m ≠ 0 := by
    rw [← runsOut_iff]
    simp [State.runsOut, Nat.one_le_iff_ne_zero]
  have hp : ∀ k : Port, k ∈ allPorts := by decide
  have he : ∀ e : ResId, e ∈ allRes := by decide
  have hr : ∀ r : RegionId, r ∈ allRegions := by decide
  rw [h]
  unfold State.dueCommand State.timesLeft
  split
  · rename_i hl
    simp [-Fin.getElem_fin, hl]
  · rename_i hl
    simp only [Option.or_eq_none_iff, Option.map_eq_none_iff, List.find?_eq_none, beq_iff_eq, List.mem_append,
      List.mem_filterMap, Option.mem_toList, hp, he, hr, true_and, forall_true_left]
    constructor
    · rintro ⟨h1, h2, h3⟩ m (((hm | ⟨k, hm⟩) | ⟨e, hm⟩) | ⟨r, hm⟩) rfl
      · exact hl hm
      · exact h1 k hm
      · exact h2 e hm
      · exact h3 r hm
    · exact fun hm => ⟨fun k hk => hm 0 (.inl (.inl (.inr ⟨k, hk⟩))) rfl, fun e hk => hm 0 (.inl (.inr ⟨e, hk⟩)) rfl,
        fun r hk => hm 0 (.inr ⟨r, hk⟩) rfl⟩

/-- A stopped timer does not run out. -/
@[simp] theorem runsOut_none (s : State) : s.runsOut none = false := rfl

/-! ## The Device Port -/

/-- An IDLE Device Port turns to the head; any other state stays as it is (R136). -/
theorem kick_idle {d : DevicePort} (regions : Vector Region 8) (h : d.phase = .idle) :
    d.kick regions = d.turnTo regions d.queue := by
  simp [DevicePort.kick, DevicePort.turnTo, h]

/-- A Device Port that is not IDLE has nothing to turn to. -/
theorem kick_of_ne {d : DevicePort} (regions : Vector Region 8) (h : d.phase ≠ .idle) : d.kick regions = d := by
  cases hp : d.phase <;> simp_all [DevicePort.kick]

end Sys2Proof.Machine
end

