-- ==== Sys2Proof/WellFormed.lean ====
section
/-! DEFINITION. Well-formedness of a command. Every operand has a type that holds exactly the values the hub's inputs
can carry (a port line exists for P0 to P3 alone, a reservation entry is 0 to 5, a region 0 to 7, every pattern of
address, byte enables, data and qualifiers can be presented, R1), so the bounds below hold of every term; they are
written out so that the check says, constructor by constructor, what a command may carry. -/

namespace Sys2Proof

/-- The bounds of a command's operands. -/
def wellFormed : Instr → Bool
  | .acceptance k _ => k.val < 4
  | .read => true
  | .write => true
  | .lineRead => true
  | .lineWrite => true
  | .reserveRead => true
  | .releaseWrite => true
  | .release => true
  | .portReset k => k.val < 4
  | .portResetDeassert k => k.val < 4
  | .powerOnReset _ => true
  | .ack _ => true
  | .err _ => true
  | .readyTimeout => true
  | .probeTimerRunOut r => r.val < 8
  | .expiry e => e.val < 6
  | .acknowledgement k _ => k.val < 4
  | .noticeTimeout k => k.val < 4
  | .foreignWrite _ => true
  | .evaluation => true
  | .cleanSweepStep => true
  | .flushSweepStep => true
  | .discardSweepStep => true
  | .run => true
  | .softReset => true
  | .portCfg => true
  | .attach => true
  | .detach => true
  | .controlWindowWrite => true
  | .region => true
  | .enable => true
  | .disable => true
  | .forceProbe => true
  | .forceOnline => true
  | .forceOffline => true
  | .clean => true
  | .flush => true
  | .discard => true
  | .abort => true
  | .lineQuery => true
  | .eventHead => true
  | .eventPop => true

end Sys2Proof
end

