-- ==== Sys2Proof/Tests/Slice0.lean ====
section
/-! SUPPORT. Tests: the bounds of the operands, one step on small states with results taken from spec/, and for every
obligation with hypotheses a named witness: concrete states and operands that meet them together, clause by clause. -/

namespace Sys2Proof.Tests

open Sys2Proof Sys2Proof.Machine

/-! ## Small states -/

/-- A transaction with every lane enabled. -/
def txn (kind : Kind) (addr : Word) : Transaction :=
  { kind := kind, addr := addr, lanes := 0b1111, wdata := 0x55, ldata := Vector.replicate 8 7, keep := false,
    noAllocate := false }

/-- Port `k` with a transaction accepted and AT_PORT. -/
def presenting (s : State) (k : Port) (t : Transaction) : State := s.place k (.atPort t)

/-- A one-page region with the power-on parameters. -/
def page (base : Tag) (cacheable writeThrough : Bool) (health : Health) : Region :=
  { cfg := { base := base, limit := base, width := .w32, cacheable := cacheable, writeThrough := writeThrough,
             readyTimeout := 8, threshold := 3, probeInterval := 100, probeOffset := 0 },
    health := health, count := 0, probeTimer := none }

/-- The hub in RUN: page 0 write-back, 1 write-through, 2 non-cacheable, 3 write-back and OFFLINE, 4 write-through and
OFFLINE, of the regions with the same numbers; Regions 5 to 7 DISABLED. Port 1 is COHERENT and ATTACHED. -/
def running : State :=
  { State.reset with
    hub := .run
    regions := #v[page 0 true false .online, page 1 true true .online, page 2 false false .online,
      page 3 true false .offline, page 4 true true .offline, Region.init, Region.init, Region.init]
    ports := setAt State.reset.ports 1 { State.reset.ports[1] with mode := .coherent true } }

/-- The data of a held line. -/
def words : Line := #v[10, 11, 12, 13, 14, 15, 16, 17]

/-- No port, and P1 alone. -/
def noPort : PortSet := Vector.replicate 4 false
def portOne : PortSet := setAt noPort 1 true

/-- A line of page `tag` in region `r`. -/
def lineOfPage (tag : Tag) (r : RegionId) (sharers : PortSet) : Held :=
  { tag := tag, region := r, sharers := sharers, data := words }

/-- Way 0 of set 0 with an entry. -/
def holding (e : Entry) : State := running.setEntry 0 0 e

/-- A reservation of port `k` for the first line of page 0. -/
def claim (k : Port) : Reservation := { owner := k, line := 0, word := 1, remaining := 9 }

/-- P1's notice queue with four notices for other lines. -/
def fullQueue : NoticeQueue :=
  { queue := [⟨.invalidate, 101⟩, ⟨.revoke, 102⟩, ⟨.invalidate, 103⟩, ⟨.invalidate, 104⟩], timer := some 20 }

/-- A state with P1's notice queue full. -/
def crowded (s : State) : State := { s with notices := setAt s.notices 1 fullQueue }

/-- A drain entry for the line `l` of Region 0. -/
def drain (p : DrainPlace) (l : LineAddr) (held : Bool) : DrainEntry :=
  { place := p, line := l, data := words, region := 0, kind := .copy, held := held }

/-- The responses a command gives. -/
def answers (o : Host.Outcome State Fault Refusal) : List (Port × Response) :=
  match o with
  | .next t => t.out.responses
  | .fault _ => []
  | .refused _ => []

/-- The state after a command. -/
def after (o : Host.Outcome State Fault Refusal) : Option State :=
  match o with
  | .next t => some t
  | .fault _ => none
  | .refused _ => none

/-! ## Operands

Every operand's type holds exactly the values the inputs can carry, so no term of `Instr` is ill-formed: the bounds admit
their last value, and no value lies beyond it. -/

theorem test_last_operands_are_well_formed :
    wellFormed (.portReset 3) = true ∧ wellFormed (.expiry 5) = true ∧ wellFormed (.probeTimerRunOut 7) = true := by
  decide

theorem test_no_operand_beyond_the_last :
    (¬ ∃ k : Port, k.val = 4) ∧ (¬ ∃ e : ResId, e.val = 6) ∧ ¬ ∃ r : RegionId, r.val = 8 := by
  decide

theorem test_no_word_spells_a_command : decodeTableWord 32 0xFFFFFFFF = none := rfl

/-! ## One step, with results from spec/ -/

/-- R3: the wrap order from word 5 is 5, 6, 7, 0, 1, 2, 3, 4 (00_scope.md, Wrap order). -/
theorem test_wrap_order_from_five : wrapOrder 5 = [5, 6, 7, 0, 1, 2, 3, 4] := by decide

/-- R2, its table: ten byte-enable patterns are legal. -/
theorem test_ten_legal_shapes :
    ((List.range 16).filter fun n => legalShape (BitVec.ofNat 4 n)) = [1, 2, 3, 4, 6, 7, 8, 12, 14, 15] := by decide

/-- The example of R34: line 0x0004_1240 stands in set 18 with tag 0x00041. -/
theorem test_address_divisions : setOf (lineOf 0x00041240) = 18 ∧ tagOf (lineOf 0x00041240) = 0x00041 := by decide

/-- R138, its example: the first transfers of a fill of line 0x0030_0020 from word 6 at width 16. -/
theorem test_fill_transfers_at_width_16 :
    ((((fillOp 2 3 (lineOf 0x00300020) 6).transfers .w16).map (·.addr)).take 6) =
      [0x00300038, 0x0030003A, 0x0030003C, 0x0030003E, 0x00300020, 0x00300022] := by decide

/-- R137, its table: lanes 1 to 2 move in two transfers at width 16 and lanes 2 to 3 in one. -/
theorem test_transfer_units :
    (unitsMoved .w16 0b0110).length = 2 ∧ (unitsMoved .w16 0b1100).length = 1 ∧ (unitsMoved .w8 0b0111).length = 3 := by
  decide

/-- R184: after power-on reset PORT_CFG of P0 reads permission granted, and the other three read all zero. -/
theorem test_port_cfg_after_reset :
    State.reset.readReg 2 (.portCfg 0) = 2 ∧ State.reset.readReg 2 (.portCfg 3) = 0 := by decide

/-- R17: in CONFIG every access outside the window is answered FAULT NOT_READY. -/
theorem test_config_answers_not_ready :
    answers (exec .read (presenting State.reset 0 (txn .read 0))) = [(0, .fault .notReady)] := by decide

/-- R181: the write of RUN (0xFFFF_F000, command 1) is answered DONE and the hub is in RUN. -/
theorem test_run_enters_run :
    (after (exec .run (presenting State.reset 0 { txn .write 0xFFFFF000 with wdata := 1 }))).map (·.hub) =
      some .run := by decide

/-- R179, step 2: P1 has no control permission after power-on reset. -/
theorem test_write_without_permission_is_denied :
    answers (exec .run (presenting State.reset 1 { txn .write 0xFFFFF000 with wdata := 1 })) =
      [(1, .fault .denied)] := by decide

/-- R2, R31: a READ of lanes 0 to 1 returns zero in the other lanes. -/
theorem test_read_hit_masks_lanes :
    answers (exec .read (presenting (holding (.clean { lineOfPage 0 0 noPort with
      data := Vector.replicate 8 0xAABBCCDD })) 2 { txn .read 4 with lanes := 0b0011 })) =
      [(2, .done (.word 0x0000CCDD))] := by decide

/-- R13: a RETRY raises the retry count, which stays at 15. -/
theorem test_retry_count_stays_at_fifteen :
    (({ State.reset.ports[0] with retry := 15 } : MasterPort).answered (.retry .lineBusy)).retry = 15 := by decide

/-- The example of R34: P0's write is held back while P3's queue holds 4 notices that name other lines, and P2's queue with
room is left as it was. -/
theorem test_write_held_back_by_full_queue :
    (after (exec .write (presenting (crowded (holding (.clean (lineOfPage 0 0 portOne)))) 0 (txn .write 4)))).map
      (fun t => (t.out.responses, t.ports[0].retry, t.notices[1].queue.length)) =
      some ([(0, .retry .noticeFull)], 1, 4) := by decide

/-- R29: a RELEASE that misses is answered LATE. -/
theorem test_release_that_misses_is_late :
    answers (exec .release (presenting running 0 (txn .release 0))) = [(0, .late)] := by decide

/-- R45: a miss whose DIRTY victim meets two drain entries is answered RETRY DRAIN_FULL. Page 5 of set 0 is outside every
region here, so the line of page 0 is the one that misses. -/
theorem test_dirty_victim_needs_drain_room :
    answers (exec .read (presenting
      { running with
        dir := setAt running.dir 0
          { ways := Vector.replicate 4 (.dirty (lineOfPage 9 0 noPort)), recency := [0, 1, 2, 3] }
        drains := [drain 0 77 false, drain 1 78 false] } 0 (txn .read 0))) = [(0, .retry .drainFull)] := by decide

/-- R118: an evaluation of a line that nothing names only leaves the FIFO. -/
theorem test_evaluation_of_absent_line :
    (after (exec .evaluation { running with fifo := { lines := [5, 6], deferred := none } })).map
      (fun t => (t.fifo, t.events.records)) = some ({ lines := [6], deferred := none }, []) := by decide

/-- R192: a queue that holds one record and the overflow flag is empty with the flag clear after a pop. -/
theorem test_pop_of_last_record_clears_overflow :
    ({ records := [.hubReset 0], overflow := true } : EventQueue).pop = { records := [], overflow := false } := by decide

/-- R182: soft reset answers the issuing write DONE and every other transaction in flight FAULT RESET. -/
theorem test_soft_reset_answers :
    answers (exec .softReset { presenting (presenting running 2 (txn .read 0)) 0
      { txn .write 0xFFFFF000 with wdata := 2 } with lastGranted := 3 }) =
      [(2, .fault .reset), (0, .done .nothing)] := by decide

/-- R189: a REVOKE notice for line 0x0000_C060 carries the line address and bit 0; bits 4:1 are free. -/
theorem test_notice_word :
    (⟨.revoke, lineOf 0x0000C060⟩ : Notice).word =
      0x0000C060 ||| field 1 (Config.noticeSpare (lineOf 0x0000C060) true).toNat ||| 1 := by
  have hl : lineWord (lineOf 0x0000C060) = 0x0000C060 := by decide
  have hk : flag 0 ((NoticeKind.revoke == NoticeKind.revoke)) = 1 := by decide
  simp only [Notice.word, hl, hk]
  rfl

/-- Entry 5 reserving the first line of page 0, with its time run out. -/
def lapsed : State := { running with res := setAt running.res 5 (some { claim 2 with remaining := 0 }) }

/-- R197: a reservation whose time has elapsed expires before any more time does. -/
theorem test_due_expiry_is_taken_before_time_elapses :
    (after (step lapsed)).map (fun t => t.res[(5 : ResId)]) = some none := by decide

/-- R197: a notice timer with 20 µs left does not run out before a reservation with 9. -/
theorem test_sooner_timer_runs_out_first :
    let s : State := { crowded running with res := setAt running.res 5 (some (claim 2)) }
    exec (.noticeTimeout 1) s = .next s ∧
      (after (exec (.expiry 5) s)).map (fun t => t.notices[(1 : Port)].timer) = some (some 11) := by
  exact ⟨rfl, by decide⟩

/-! ## Witnesses: the machine -/

/-- A state in which every condition of Sys2Proof.Machine.State.sound has something to say: P1 shares a held line that P2
reserves and has one notice, a line drains, a foreign report waits, and a record is stored. -/
def live : State :=
  { (holding (.clean (lineOfPage 0 0 portOne))) with
    pending := [.evaluation]
    notices := setAt running.notices 1 { queue := [⟨.revoke, 101⟩], timer := some 20 }
    res := setAt running.res 5 (some (claim 2))
    drains := [drain 0 77 false]
    fifo := { lines := [9], deferred := none }
    events := { records := [.hubReset 0], overflow := true } }

theorem witness_StepOnEmptyQueueElapsesOneMicrosecond :
    running.pending = [] ∧ running.porPin = false ∧ (crowded running).noneSooner 1 ∧ lapsed.pending = [] ∧
      ¬ lapsed.noneSooner 1 ∧ ({ running with porPin := true } : State).pending = [] := by
  unfold State.noneSooner
  decide

theorem witness_StepKeepsRecencyOrdered : live.recencyOrdered ∧ ∃ t, step live = .next t := by
  refine ⟨fun si => ?_, _, rfl⟩
  by_cases h : (0 : SetIdx) = si
  · subst h
    decide
  · simp only [live, holding, State.setEntry, running, State.reset, setAt_getElem, h, if_false]
    simp [DirSet.init, allWays]

theorem witness_StepKeepsBuffersWithinCapacity : live.withinCapacity ∧ ∃ t, step live = .next t := by
  refine ⟨?_, _, rfl⟩
  unfold State.withinCapacity
  decide

theorem live_sharers (si : SetIdx) (w : WayIdx) :
    (live.entry si w).sharers = portOne ∨ (live.entry si w).sharers = noPort := by
  by_cases h : (0 : SetIdx) = si
  · subst h
    revert w
    decide
  · right
    simp only [live, holding, State.setEntry, running, State.reset, setAt_getElem, h, if_false, State.entry]
    simp [DirSet.init, Entry.sharers, Entry.held?, PortSet.empty, noPort]

theorem witness_StepKeepsSharersAndNoticesCoherent : live.coherent ∧ ∃ t, step live = .next t := by
  refine ⟨⟨?_, fun si w k h => ?_⟩, _, rfl⟩
  · unfold NoticeQueue.sound
    decide
  · rcases live_sharers si w with hs | hs <;> rw [hs] at h <;> revert h <;> revert k <;> decide

theorem live_res {e : ResId} {x : Reservation} (h : live.res[e] = some x) : e = 5 ∧ x = claim 2 := by
  have hn : ∀ n : ResId, n ≠ 5 → live.res[n] = none := by decide
  have he : e = 5 := by
    by_contra he
    rw [hn e he] at h
    cases h
  subst he
  exact ⟨rfl, (Option.some.inj h).symm⟩

theorem live_entry (si : SetIdx) (w : WayIdx) :
    live.entry si w = .invalid ∨ (si = 0 ∧ w = 0 ∧ live.entry si w = .clean (lineOfPage 0 0 portOne)) := by
  by_cases h : (0 : SetIdx) = si
  · subst h
    revert w
    decide
  · left
    simp only [live, holding, State.setEntry, running, State.reset, setAt_getElem, h, if_false, State.entry]
    simp [DirSet.init]

theorem witness_StepKeepsReservationLimits :
    live.reservationsSound ∧ live.linesSound ∧ ∃ t, step live = .next t := by
  refine ⟨⟨fun i j l hi hj => ?_, by decide⟩, ⟨fun si v w tag hv hw => ?_, fun i f h => ?_, fun si w tag r i h => ?_,
    fun e x h => ?_⟩, _, rfl⟩
  · have held : ∀ n : ResId, reserves l live.res[n] = true → n = 5 := fun n hn => by
      cases h : live.res[n] with
      | none => rw [h] at hn; cases hn
      | some x => exact (live_res h).1
    rw [held i hi, held j hj]
  · rcases live_entry si v with h1 | ⟨-, h1, -⟩ <;> rcases live_entry si w with h2 | ⟨-, h2, -⟩
    · rw [h1] at hv; cases hv
    · rw [h1] at hv; cases hv
    · rw [h2] at hw; cases hw
    · rw [h1, h2]
  · have hn : ∀ n : SlotId, live.slots[n] = none := by decide
    rw [hn i] at h
    cases h
  · rcases live_entry si w with h1 | ⟨-, -, h1⟩ <;> rw [h1] at h <;> cases h
  · obtain ⟨rfl, rfl⟩ := live_res h
    exact ⟨0, lineOfPage 0 0 portOne, by decide, by decide⟩

theorem witness_StepKeepsParametersSound : live.parametersSound ∧ ∃ t, step live = .next t := by
  refine ⟨?_, _, rfl⟩
  unfold State.parametersSound
  decide

/-- The hub with every sort of work on the device operation queue: a fill of P2 with P3 behind it under way, a drain, a port
operation of P0, an abandoned one of P1, whose place it holds, and Region 3's probe; Region 4's probe timer runs. -/
def working : State :=
  { running with
    slots := setAt running.slots 0 (some
      { line := 0, way := 0, region := 0, allocPort := 2,
        requester := some { port := 2, txn := txn .read 0, region := 0 }, critical := 0,
        waiters := [{ port := 3, txn := txn .write 0, region := 0 }], tainted := false, received := [] })
    drains := [drain 0 77 false, drain 1 78 true]
    regions := setAt running.regions 4 { running.regions[4] with probeTimer := some 1000 }
    ports := #v[{ running.ports[0] with flight := some .portOp }, running.ports[1],
      { running.ports[2] with flight := some (.requester 0) }, { running.ports[3] with flight := some (.waiter 0) }]
    dev :=
      { phase := .busy { region := 0, addr := 0, write := false, lanes := 0b1111, data := 0, endsWord := true } 8 [] 0 []
        queue := [fillOp 0 0 0 0, (drain 0 77 false).op, Request.portOp { port := 0, txn := txn .read 0x2000, region := 2 } false,
          { Request.portOp { port := 1, txn := txn .read 0x2000, region := 2 } false with owner := none },
          probeOp 3 running.regions[3].cfg]
        places := #v[.active, .orphaned none, .free, .free] } }

theorem witness_StepKeepsDeviceQueueSound : working.queueSound ∧ ∃ t, step working = .next t := by
  refine ⟨⟨by unfold State.placesDistinct; decide, ⟨fun i f h => ?_, by decide⟩, by unfold State.drainsQueued; decide,
    fun k => ⟨?_, ?_, fun parked h => ?_, ?_⟩, by unfold State.probesQueued; decide,
    fun now timer rest gathered kept h => ?_⟩, _, rfl⟩
  · by_cases hi : i = 0
    · subst hi
      obtain rfl := Option.some.inj h
      decide
    · have hn : ∀ n : SlotId, n ≠ 0 → working.slots[n] = none := by decide
      rw [hn i hi] at h
      cases h
  · revert k
    decide
  · revert k
    decide
  · have hk : k = 1 ∧ parked = none := by
      have hp : ∀ n : Port, n ≠ 1 → (working.dev.places[n] = .active ∨ working.dev.places[n] = .free) := by decide
      by_cases hn : k = 1
      · subst hn
        exact ⟨rfl, (Place.orphaned.inj h).symm⟩
      · rcases hp k hn with h1 | h1 <;> rw [h1] at h <;> cases h
    obtain ⟨rfl, rfl⟩ := hk
    decide
  · have hp : ∀ n : Port, (working.dev.places[n] = .active ∨ working.dev.places[n] = .free ∨
      working.dev.places[n] = .orphaned none) := by decide
    constructor
    · intro hf
      left
      revert k
      decide
    · rintro (ha | ⟨op, ho⟩)
      · revert k
        decide
      · rcases hp k with h1 | h1 | h1 <;> rw [h1] at ho <;> cases ho
  · obtain ⟨rfl, rfl, rfl, rfl, rfl⟩ := DevPhase.busy.inj h
    exact ⟨_, _, rfl, by decide⟩

theorem witness_NothingHappensUnderPowerOnPin :
    ({ running with porPin := true } : State).porPin = true ∧ (∀ b, Instr.read ≠ .powerOnReset b) ∧
      (∀ k, Instr.read ≠ .portReset k ∧ Instr.read ≠ .portResetDeassert k) := by
  decide

theorem witness_EnabledRegionKeepsConfiguration :
    (∀ b, Instr.evaluation ≠ .powerOnReset b) ∧ live.regions[(0 : RegionId)].health ≠ .disabled ∧
      ∃ t, exec .evaluation live = .next t :=
  ⟨by decide, by decide, _, rfl⟩

/-! ## Witnesses: master ports, resets and the arbiter -/

theorem witness_AcceptancePlacesTransactionAtPort :
    running.porPin = false ∧ running.ports[(3 : Port)].flight = none ∧ running.ports[(3 : Port)].resetLine = false ∧
      (presenting running 3 (txn .read 0)).ports[(3 : Port)].flight ≠ none ∧
      (running.setResetLine 3 true).ports[(3 : Port)].resetLine = true := by
  decide

/-- A device operation of one word of Region `r`, owned by P2. -/
def work (kind : OpKind) (r : RegionId) : Operation :=
  { kind := kind, region := r, line := 0, extent := .word 0 0b1111, data := words, owner := some 2 }

/-- A transfer of Region `r`. -/
def beat (r : RegionId) (endsWord : Bool) : Transfer :=
  { region := r, addr := 0, write := false, lanes := 0b1111, data := 0, endsWord := endsWord }

/-- A fill of P2's READ with one waiter. -/
def filling (tainted : Bool) : Fill :=
  { line := 0, way := 0, region := 0, allocPort := 2,
    requester := some { port := 2, txn := txn .read 0, region := 0 }, critical := 0,
    waiters := [{ port := 3, txn := txn .write 0, region := 0 }], tainted := tainted,
    received := [0, 1, 2, 3, 4, 5, 6] }

/-- Slot 0 with a fill, its way FILLING. -/
def fetching (tainted : Bool) : State :=
  { (holding (.filling 0 0 0)) with slots := setAt running.slots 0 (some (filling tainted)) }

/-- A state whose Device Port has `op` under way, with `rest` to present. -/
def busy (s : State) (op : Operation) (now : Transfer) (rest : List Transfer) : State :=
  { s with dev := { s.dev with queue := [op], phase := .busy now 8 rest 0 [] } }

/-- Port 2 WAITING at a placement. -/
def waiting (s : State) (p : Placement) : State := s.place 2 p

/-- P2's port operation place. -/
def withPlace (s : State) (p : Place) : State := { s with dev := { s.dev with places := setAt s.dev.places 2 p } }

theorem witness_PortResetAbandonsTransaction :
    (waiting (fetching false) (.requester 0)).slots[(0 : SlotId)] = some (filling false) ∧
      (waiting (fetching false) (.waiter 0)).ports[(2 : Port)].flight = some (.waiter 0) ∧
      (withPlace (waiting running .portOp) .active).dev.places[(2 : Port)] = .active ∧
      (withPlace (waiting running .portOp) (.orphaned (some (work (.portWrite 2 true) 1)))).dev.places[(2 : Port)] =
        .orphaned (some (work (.portWrite 2 true) 1)) ∧
      ∃ t, exec (.portReset 2) (waiting (fetching false) (.requester 0)) = .next t :=
  ⟨by decide, by decide, by decide, by decide, _, rfl⟩

theorem witness_ResetLinesAndPinTakeLevels :
    running.porPin = false ∧ ({ running with porPin := true } : State).porPin = true := by
  decide

/-- P2 with a retry count of URGENCY beside P3, which the rotation reaches first. -/
def contended : State :=
  { (presenting (presenting running 2 (txn .read 0)) 3 (txn .read 0)) with
    lastGranted := 2
    ports := setAt (presenting (presenting running 2 (txn .read 0)) 3 (txn .read 0)).ports 2
      { running.ports[2] with flight := some (.atPort (txn .read 0)), retry := 4 } }

theorem witness_ArbiterGrantsUrgentFirstInRotation :
    contended.grantedPort = some 2 ∧ running.grantedPort = none ∧
      contended.urgency.toNat ≤ contended.ports[(2 : Port)].retry := by
  decide

/-! ## Witnesses: transactions at the Line Directory -/

theorem witness_IntakeChecksAnswerFaultsInOrder :
    (presenting State.reset 0 (txn .read 0)).takes 0 (txn .read 0) ∧
    (presenting running 0 { txn .read 0 with lanes := 0b0101 }).takes 0 { txn .read 0 with lanes := 0b0101 } ∧
    legalShape 0b0101 = false ∧
    (presenting running 0 (txn .read 0x5000)).takes 0 (txn .read 0x5000) ∧ running.regionAt 0x5000 = none ∧
    (presenting running 0 (txn .release 0x2FFF)).takes 0 (txn .release 0x2FFF) ∧ running.regionAt 0x2FFF = some 2 ∧
    inWindow 0xFFFFEFFF = false := by
  unfold State.takes
  constructorm* _ ∧ _ <;> decide

/-- P0's `t` meets the line of page 0, shared by `S`, CLEAN. -/
def meets (t : Transaction) (S : PortSet) : State := presenting (holding (.clean (lineOfPage 0 0 S))) 0 t

/-- P0's `t` meets the line of page 1, a write-through region, CLEAN. -/
def meetsThrough (t : Transaction) (S : PortSet) : State := presenting (holding (.clean (lineOfPage 1 1 S))) 0 t

/-- P0's `t` meets the line of page 4, an OFFLINE write-through region, CLEAN. -/
def meetsOffline (t : Transaction) : State := presenting (holding (.clean (lineOfPage 4 4 noPort))) 0 t

/-- A state with entry 5 reserving the first line of page 0 for port `k`. -/
def reserved (s : State) (k : Port) : State := { s with res := setAt s.res 5 (some (claim k)) }

theorem witness_ReadHitsReturnData :
    (meets (txn .read 0x1C) noPort).reaches 0 (txn .read 0x1C) 0 ∧
    (meets (txn .read 0x1C) noPort).hits (txn .read 0x1C).line 0 (lineOfPage 0 0 noPort) ∧
    (presenting (holding (.clean (lineOfPage 0 0 noPort))) 1 { txn .lineRead 0 with keep := true }).reaches 1
      { txn .lineRead 0 with keep := true } 0 ∧
    running.ports[(1 : Port)].mode = .coherent true ∧
    (meets (txn .lineRead 0) noPort).reaches 0 (txn .lineRead 0) 0 ∧ (txn .lineRead 0).keep = false := by
  unfold State.reaches State.takes State.hits
  constructorm* _ ∧ _ <;> decide

theorem witness_WriteHitMakesLineDirty :
    (meets (txn .write 0) portOne).reaches 0 (txn .write 0) 0 ∧
    (meets (txn .write 0) portOne).hits (txn .write 0).line 0 (lineOfPage 0 0 portOne) ∧
    running.isWriteThrough 0 = false ∧ (meets (txn .write 0) portOne).reserver 0 = none ∧
    (reserved (meets (txn .write 0) portOne) 0).reserver 0 = some 0 ∧
    (meets (txn .write 0) portOne).roomFor (setAt portOne 0 false) 0 := by
  unfold State.reaches State.takes State.hits State.roomFor
  constructorm* _ ∧ _ <;> decide

theorem witness_WriteThroughHitMakesPortOperation :
    (meetsThrough (txn .lineWrite 0x1000) portOne).reaches 0 (txn .lineWrite 0x1000) 1 ∧
    (meetsThrough (txn .lineWrite 0x1000) portOne).hits (txn .lineWrite 0x1000).line 0 (lineOfPage 1 1 portOne) ∧
    running.isWriteThrough 1 = true ∧ running.isOffline 1 = false ∧
    (meetsThrough (txn .lineWrite 0x1000) portOne).reserver (lineOf 0x1000) = none ∧
    (meetsThrough (txn .lineWrite 0x1000) portOne).roomFor (setAt portOne 0 false) (lineOf 0x1000) := by
  unfold State.reaches State.takes State.hits State.roomFor
  constructorm* _ ∧ _ <;> decide

theorem witness_WriteHitRefusedInOrder :
    (reserved (meets (txn .write 0) noPort) 3).reserver 0 = some 3 ∧
    (reserved (meets (txn .write 0) noPort) 3).reaches 0 (txn .write 0) 0 ∧
    (meetsOffline (txn .write 0x4000)).reaches 0 (txn .write 0x4000) 4 ∧ running.isOffline 4 = true ∧
    (meetsOffline (txn .write 0x4000)).hits (txn .write 0x4000).line 0 (lineOfPage 4 4 noPort) ∧
    (crowded (meets (txn .write 0) portOne)).reaches 0 (txn .write 0) 0 ∧
    ¬ (crowded (meets (txn .write 0) portOne)).roomFor (setAt portOne 0 false) 0 := by
  unfold State.reaches State.takes State.hits State.roomFor
  constructorm* _ ∧ _ <;> decide

/-- The Reservation Table with entries for other lines: two of P0, and every entry HELD but `i`. -/
def twoOwned (s : State) : State :=
  { s with res := setAt (setAt s.res 0 (some { claim 0 with line := 61 })) 1 (some { claim 0 with line := 62 }) }
def allHeldBut (s : State) (i : Option ResId) : State :=
  { s with res := Vector.ofFn fun j => if some j = i then none else some { claim 3 with line := 100 + BitVec.ofNat 27 j.val } }

theorem witness_ReserveReadHitGrantsOrRefreshes :
    (meets (txn .reserveRead 0) noPort).reaches 0 (txn .reserveRead 0) 0 ∧
    (meets (txn .reserveRead 0) noPort).hits (txn .reserveRead 0).line 0 (lineOfPage 0 0 noPort) ∧
    (reserved (meets (txn .reserveRead 0) noPort) 3).reserver 0 = some 3 ∧
    (reserved (meets (txn .reserveRead 0) noPort) 0).reserver 0 = some 0 ∧
    (reserved (meets (txn .reserveRead 0) noPort) 0).resOf 0 = some 5 ∧
    (twoOwned (meets (txn .reserveRead 0) noPort)).reserver 0 = none ∧
    (twoOwned (meets (txn .reserveRead 0) noPort)).owned 0 = 2 ∧
    (allHeldBut (meets (txn .reserveRead 0) noPort) none).owned 0 = 0 ∧
    (∀ i : ResId, (allHeldBut (meets (txn .reserveRead 0) noPort) none).res[i] ≠ none) ∧
    (allHeldBut (meets (txn .reserveRead 0) noPort) (some 5)).reserver 0 = none ∧
    (allHeldBut (meets (txn .reserveRead 0) noPort) (some 5)).res[(5 : ResId)] = none := by
  unfold State.reaches State.takes State.hits
  constructorm* _ ∧ _ <;> decide

theorem witness_ReleaseWriteHitWritesAndFrees :
    (meets (txn .releaseWrite 0) portOne).reaches 0 (txn .releaseWrite 0) 0 ∧
    (meets (txn .releaseWrite 0) portOne).hits (txn .releaseWrite 0).line 0 (lineOfPage 0 0 portOne) ∧
    (meets (txn .releaseWrite 0) portOne).reserver 0 ≠ some 0 ∧
    (reserved (meets (txn .releaseWrite 0) portOne) 0).reserver 0 = some 0 ∧
    (reserved (meets (txn .releaseWrite 0) portOne) 0).roomFor (setAt portOne 0 false) 0 ∧
    ¬ (crowded (reserved (meets (txn .releaseWrite 0) portOne) 0)).roomFor (setAt portOne 0 false) 0 ∧
    (meetsThrough (txn .releaseWrite 0x1000) noPort).reaches 0 (txn .releaseWrite 0x1000) 1 ∧
    (meetsOffline (txn .releaseWrite 0x4000)).reaches 0 (txn .releaseWrite 0x4000) 4 ∧
    ({ meetsOffline (txn .releaseWrite 0x4000) with
      res := setAt running.res 0 (some { claim 0 with line := lineOf 0x4000 }) } : State).reserver (lineOf 0x4000) =
        some 0 := by
  unfold State.reaches State.takes State.hits State.roomFor
  constructorm* _ ∧ _ <;> decide

theorem witness_ReleaseFreesOrIsLate :
    (reserved (meets (txn .release 0) noPort) 0).reaches 0 (txn .release 0) 0 ∧
    (reserved (meets (txn .release 0) noPort) 0).hits (txn .release 0).line 0 (lineOfPage 0 0 noPort) ∧
    (reserved (meets (txn .release 0) noPort) 0).reserver 0 = some 0 ∧
    (reserved (meets (txn .release 0) noPort) 3).reserver 0 ≠ some 0 ∧
    (presenting running 0 (txn .releaseWrite 0)).reaches 0 (txn .releaseWrite 0) 0 ∧
    (presenting running 0 (txn .releaseWrite 0)).lookup 0 = none := by
  unfold State.reaches State.takes State.hits
  constructorm* _ ∧ _ <;> decide

/-- P2's own fill with its requester place vacant. -/
def vacant : State :=
  { fetching false with slots := setAt running.slots 0 (some { filling false with requester := none }) }

theorem witness_FillingLineIsJoined :
    (presenting (fetching false) 0 (txn .release 0)).reaches 0 (txn .release 0) 0 ∧
    (presenting (fetching false) 0 (txn .release 0)).lookup 0 = some 0 ∧
    (fetching false).entry 0 0 = .filling 0 0 0 ∧ (fetching false).slots[(0 : SlotId)] = some (filling false) ∧
    (presenting vacant 2 (txn .write 0)).reaches 2 (txn .write 0) 0 ∧ (filling false).allocPort = 2 := by
  unfold State.reaches State.takes
  constructorm* _ ∧ _ <;> decide

/-- A state with these drain entries. -/
def draining (s : State) (es : List DrainEntry) : State := { s with drains := es }

/-- P0's `t` on the hub with no line held. -/
def alone (t : Transaction) : State := presenting running 0 t

/-- Every fill slot BUSY. -/
def slotsFull (s : State) : State := { s with slots := Vector.replicate 4 (some (filling false)) }

theorem witness_MissRefusedInOrder :
    (draining (alone (txn .read 0)) [drain 1 0 true]).reaches 0 (txn .read 0) 0 ∧
    (alone (txn .read 0)).lookup 0 = none ∧
    (alone (txn .write 0x3000)).reaches 0 (txn .write 0x3000) 3 ∧ running.isOffline 3 = true ∧
    (twoOwned (alone (txn .reserveRead 0))).reaches 0 (txn .reserveRead 0) 0 ∧
    (twoOwned (alone (txn .reserveRead 0))).owned 0 = 2 ∧
    (allHeldBut (alone (txn .reserveRead 0)) none).reaches 0 (txn .reserveRead 0) 0 ∧
    (∀ i : ResId, (allHeldBut (alone (txn .reserveRead 0)) none).res[i] ≠ none) ∧
    (slotsFull (alone (txn .read 0))).reaches 0 (txn .read 0) 0 ∧
    running.missBypasses { port := 0, txn := txn .read 0, region := 0 } = false ∧
    (∀ i : SlotId, (slotsFull (alone (txn .read 0))).slots[i] ≠ none) := by
  unfold State.reaches State.takes
  constructorm* _ ∧ _ <;> decide

theorem witness_MissThatDoesNotAllocateMakesPortOperation :
    (alone (txn .lineWrite 0x2000)).reaches 0 (txn .lineWrite 0x2000) 2 ∧
    running.regions[(2 : RegionId)].cfg.cacheable = false ∧
    (alone { txn .read 0 with noAllocate := true }).reaches 0 { txn .read 0 with noAllocate := true } 0 ∧
    (alone (txn .write 0x1000)).reaches 0 (txn .write 0x1000) 1 ∧ (alone (txn .write 0x1000)).lookup (lineOf 0x1000) = none ∧
    running.drains = [] ∧ running.isOffline 2 = false ∧ running.isWriteThrough 1 = true := by
  unfold State.reaches State.takes
  constructorm* _ ∧ _ <;> decide

theorem witness_PortOperationJoinsQueueOrIsParked :
    running.dev.places[(2 : Port)] = .free ∧ running.dev.phase = .idle ∧
    (busy running (work (.portRead 2) 2) (beat 2 true) []).dev.phase ≠ .idle ∧
    (withPlace running (.orphaned none)).dev.places[(2 : Port)] = .orphaned none := by
  decide

theorem witness_VictimIsNearestBackOfRecencyList :
    running.victim 0 = some 3 ∧
    ({ running with
      dir := setAt running.dir 0
        { ways := Vector.replicate 4 (.clean (lineOfPage 9 0 noPort)), recency := [3, 2, 1, 0] } } : State).victim 0 =
        some 0 ∧
    ({ running with
      dir := setAt running.dir 0 { ways := Vector.replicate 4 (.filling 9 0 0), recency := [0, 1, 2, 3] } } : State).victim 0 = none := by
  decide

/-- P0's `t` with every way of set 0 holding `e`. -/
def setFull (t : Transaction) (e : Entry) : State :=
  presenting { running with dir := setAt running.dir 0 { ways := Vector.replicate 4 e, recency := [0, 1, 2, 3] } } 0 t

theorem witness_VictimRefusedInOrder :
    (setFull (txn .read 0) (.filling 9 0 1)).missAdmitted 0 (txn .read 0) 0 ∧
    (setFull (txn .read 0) (.filling 9 0 1)).victim 0 = none ∧
    (draining (setFull (txn .lineWrite 0) (.dirty (lineOfPage 9 0 noPort)))
      [drain 0 77 false, drain 1 78 false]).missAdmitted 0 (txn .lineWrite 0) 0 ∧
    (setFull (txn .lineWrite 0) (.dirty (lineOfPage 9 0 noPort))).victim 0 = some 3 ∧
    (crowded (setFull (txn .read 0) (.clean (lineOfPage 9 0 portOne)))).missAdmitted 0 (txn .read 0) 0 ∧
    (crowded (setFull (txn .read 0) (.clean (lineOfPage 9 0 portOne)))).victim 0 = some 3 ∧
    ¬ (crowded (setFull (txn .read 0) (.clean (lineOfPage 9 0 portOne)))).roomFor portOne (lineAt 9 0) := by
  unfold State.missAdmitted State.reaches State.takes State.roomFor
  constructorm* _ ∧ _ <;> decide

theorem witness_MissAllocatesVictimWay :
    (alone (txn .lineWrite 0)).missAdmitted 0 (txn .lineWrite 0) 0 ∧ (alone (txn .lineWrite 0)).victim 0 = some 3 ∧
    running.entry 0 3 = .invalid ∧
    (setFull (txn .reserveRead 0) (.clean (lineOfPage 9 0 portOne))).missAdmitted 0 (txn .reserveRead 0) 0 ∧
    (setFull (txn .reserveRead 0) (.clean (lineOfPage 9 0 portOne))).victim 0 = some 3 ∧
    (setFull (txn .reserveRead 0) (.clean (lineOfPage 9 0 portOne))).roomFor portOne (lineAt 9 0) ∧
    (draining (setFull (txn .read 0) (.dirty (lineOfPage 9 0 portOne))) [drain 0 77 false]).missAdmitted
      0 (txn .read 0) 0 ∧
    (draining (setFull (txn .read 0) (.dirty (lineOfPage 9 0 portOne))) [drain 0 77 false]).victim 0 =
      some 3 ∧
    freeDrainPlace [drain 0 77 false] = 1 ∧ running.slots[(0 : SlotId)] = none := by
  unfold State.missAdmitted State.reaches State.takes State.roomFor
  constructorm* _ ∧ _ <;> decide

/-! ## Witnesses: the Device Port -/

theorem witness_AckRecordsTransferAndPresentsNext :
    (busy running (work (.portRead 2) 2) (beat 2 false) [beat 2 true]).underWay (work (.portRead 2) 2) [] (beat 2 false)
      8 [beat 2 true] 0 [] ∧
    (busy running (work (.portWrite 2 false) 2) (beat 2 true) [beat 2 true]).underWay (work (.portWrite 2 false) 2) []
      (beat 2 true) 8 [beat 2 true] 0 [] ∧
    (busy running (work (.portWrite 2 false) 2) (beat 2 false) [beat 2 true]).underWay (work (.portWrite 2 false) 2) []
      (beat 2 false) 8 [beat 2 true] 0 [] ∧
    (busy running (work .probe 3) (beat 3 true) [beat 3 true]).underWay (work .probe 3) [] (beat 3 true) 8
      [beat 3 true] 0 [] ∧
    (busy (fetching false) (fillOp 0 0 0 0) (beat 0 true) [beat 0 true]).underWay (fillOp 0 0 0 0) [] (beat 0 true) 8
      [beat 0 true] 0 [] ∧
    (fetching false).slots[(0 : SlotId)] = some (filling false) ∧ (work (.portWrite 2 false) 2).kind.isWrite = true := by
  unfold State.underWay
  constructorm* _ ∧ _ <;> decide

theorem witness_AckEndsDrainPortOperationOrProbe :
    (busy running (drain 1 77 false).op (beat 0 true) []).underWay (drain 1 77 false).op [] (beat 0 true) 8 [] 0 [] ∧
    (busy running (work (.portWrite 2 true) 1) (beat 1 true) []).underWay (work (.portWrite 2 true) 1) [] (beat 1 true)
      8 [] 0 [] ∧
    (busy running (work (.portRead 2) 2) (beat 2 true) []).underWay (work (.portRead 2) 2) [] (beat 2 true) 8 [] 0 [] ∧
    (work (.portRead 2) 2).extent = .word 0 0b1111 ∧
    (busy running { work (.portRead 2) 2 with extent := .line 7 } (beat 2 true) []).underWay
      { work (.portRead 2) 2 with extent := .line 7 } [] (beat 2 true) 8 [] 0 [] ∧
    (busy running (work .probe 3) (beat 3 true) []).underWay (work .probe 3) [] (beat 3 true) 8 [] 0 [] := by
  unfold State.underWay
  constructorm* _ ∧ _ <;> decide

theorem witness_AckCompletesFill :
    (busy (fetching false) (fillOp 0 0 0 0) (beat 0 true) []).underWay (fillOp 0 0 0 0) [] (beat 0 true) 8 [] 0 [] ∧
    (fetching false).slots[(0 : SlotId)] = some (filling false) ∧ (filling false).tainted = false ∧
    (busy (fetching true) (fillOp 0 0 0 0) (beat 0 true) []).underWay (fillOp 0 0 0 0) [] (beat 0 true) 8 [] 0 [] ∧
    (fetching true).slots[(0 : SlotId)] = some (filling true) ∧
    (meets (txn .write 0) portOne).reaches 0 (txn .write 0) 0 ∧
    (meets (txn .write 0) portOne).hits (txn .write 0).line 0 (lineOfPage 0 0 portOne) := by
  unfold State.underWay State.reaches State.takes State.hits
  constructorm* _ ∧ _ <;> decide

theorem witness_ErrEndsOperation :
    (busy (fetching true) (fillOp 0 0 0 0) (beat 0 false) []).underWay (fillOp 0 0 0 0) [] (beat 0 false) 8 [] 0 [] ∧
    (draining running [drain 1 77 false]).drainAt 1 = some (drain 1 77 false) ∧
    (busy (draining running [drain 1 77 false]) (drain 1 77 false).op (beat 0 true) []).underWay
      (drain 1 77 false).op [] (beat 0 true) 8 [] 0 [] ∧
    (busy running (work (.portWrite 2 true) 1) (beat 1 true) []).underWay (work (.portWrite 2 true) 1) [] (beat 1 true)
      8 [] 0 [] ∧
    (busy running (work .probe 3) (beat 3 true) []).underWay (work .probe 3) [] (beat 3 true) 8 [] 0 [] := by
  unfold State.underWay
  constructorm* _ ∧ _ <;> decide

/-- Region 0 with two consecutive timeouts of its three. -/
def almost (s : State) : State := { s with regions := s.withCount 0 2 }

theorem witness_ReadyTimeoutBelowThresholdEndsOperation :
    (busy (fetching false) (fillOp 0 0 0 0) (beat 0 false) []).underWay (fillOp 0 0 0 0) [] (beat 0 false) 8 [] 0 [] ∧
    ¬ (running.regions[(0 : RegionId)].health = .online ∧
      min (running.regions[(0 : RegionId)].count + 1) running.regions[(0 : RegionId)].cfg.threshold.toNat =
        running.regions[(0 : RegionId)].cfg.threshold.toNat) ∧
    (busy (draining running [drain 1 77 false, drain 0 77 false]) (drain 1 77 false).op (beat 0 true) []).underWay
      (drain 1 77 false).op [] (beat 0 true) 8 [] 0 [] ∧
    (drain 0 77 false).line = (drain 1 77 false).op.line ∧ (drain 0 78 false).line ≠ (drain 1 77 false).op.line ∧
    (busy running (work (.portRead 2) 2) (beat 2 true) []).underWay (work (.portRead 2) 2) [] (beat 2 true) 8 [] 0 [] ∧
    (busy running (work .probe 3) (beat 3 true) []).underWay (work .probe 3) [] (beat 3 true) 8 [] 0 [] ∧
    (busy running (work .probe 3) (beat 3 true) []).noneSooner 8 ∧
    ¬ ({ busy running (work .probe 3) (beat 3 true) [] with res := lapsed.res } : State).noneSooner 8 := by
  unfold State.underWay State.noneSooner
  constructorm* _ ∧ _ <;> decide

/-- The Device Port CLEARING a transfer. -/
def clearing : State := { running with dev := { running.dev with phase := .clearing (beat 3 true) 8 } }

theorem witness_OrphanAnswersAreDiscarded :
    clearing.porPin = false ∧ clearing.dev.phase = .clearing (beat 3 true) 8 ∧ running.dev.phase = .idle ∧
    clearing.noneSooner 8 ∧ ¬ ({ clearing with res := lapsed.res } : State).noneSooner 8 := by
  unfold State.noneSooner
  decide

theorem witness_TransfersFollowDeviceWidth :
    (work (.portRead 2) 2).extent = .word 0 0b1111 ∧ (0b1111 : Lanes) ≠ 0 ∧ (fillOp 0 0 0 7).extent = .line 7 ∧
    running.dev.phase = .idle ∧ (busy running (work .probe 3) (beat 3 true) []).busTransfer = some (beat 3 true) ∧
    clearing.busTransfer = some (beat 3 true) ∧ ({ clearing with porPin := true } : State).busTransfer = none ∧
    (transferOfUnit 0 true 0 0 0b0001 0x55 true (0b0011, 0)).write = true ∧ (beat 3 true).write = false := by
  decide

/-! ## Witnesses: timers, notices and foreign writes -/

/-- Region 3's probe timer RUNNING. -/
def probing : State :=
  { running with regions := setAt running.regions 3 { running.regions[3] with probeTimer := some 1000 } }

theorem witness_RunOutsFreeReservationAndQueueProbe :
    (reserved running 2).res[(5 : ResId)] = some (claim 2) ∧ running.res[(0 : ResId)] = none ∧
    probing.regions[(3 : RegionId)].probeTimer = some 1000 ∧ running.regions[(7 : RegionId)].probeTimer = none ∧
    (reserved running 2).noneSooner 9 ∧ ¬ ({ reserved running 2 with notices := (crowded running).notices, dev :=
      { running.dev with phase := .clearing (beat 3 true) 8 } } : State).noneSooner 9 ∧ probing.noneSooner 1000 ∧
    ¬ (reserved probing 2).noneSooner 1000 := by
  unfold State.noneSooner
  decide

theorem witness_NoticesLeaveByAcknowledgementOrTimeout :
    (crowded running).notices[(1 : Port)].queue = ⟨.invalidate, 101⟩ :: fullQueue.queue.tail ∧
    (101 : LineAddr) = (0xCBF : Word).extractLsb' 5 27 ∧
    (∀ n, (crowded running).notices[(1 : Port)].queue.head? = some n → n.line ≠ (0xCC0 : Word).extractLsb' 5 27) ∧
    (crowded running).notices[(1 : Port)].timer = some 20 ∧
    (crowded running).ports[(1 : Port)].mode = .coherent true ∧ (crowded running).noneSooner 20 ∧
    ¬ (reserved (crowded running) 2).noneSooner 20 := by
  refine ⟨by decide, by decide, fun n h => ?_, by decide, by decide, by unfold State.noneSooner; decide,
    by unfold State.noneSooner; decide⟩
  have : n = ⟨.invalidate, 101⟩ := by
    have h2 : (crowded running).notices[(1 : Port)].queue.head? = some ⟨.invalidate, 101⟩ := by decide
    rw [h2] at h
    exact (Option.some.inj h).symm
  subst this
  decide

/-- The foreign notice FIFO with its head PENDING. -/
def reported (s : State) (ls : List LineAddr) : State := { s with fifo := { lines := ls, deferred := none } }

theorem witness_ForeignWriteJoinsFifo :
    (reported running [1, 2, 3, 4, 5, 6, 7]).fifo.lines.length < 8 ∧
    8 ≤ (reported running [1, 2, 3, 4, 5, 6, 7, 8]).fifo.lines.length := by
  decide

theorem witness_EvaluationAppliesOrDefersForeignWrite :
    (reported running [0, 9]).fifo.lines = 0 :: [9] ∧ (reported running [0, 9]).fifo.deferred = none ∧
    (reported running [0, 9]).lookup 0 = none ∧
    (reported (fetching false) [0]).lookup 0 = some 0 ∧ (reported (fetching false) [0]).entry 0 0 = .filling 0 0 0 ∧
    (reported (holding (.dirty (lineOfPage 0 0 portOne))) [0]).hits 0 0 (lineOfPage 0 0 portOne) ∧
    (reported (holding (.dirty (lineOfPage 0 0 portOne))) [0]).roomFor portOne 0 ∧
    ¬ (crowded (reported (holding (.clean (lineOfPage 0 0 portOne))) [0])).roomFor portOne 0 ∧
    ({ running with fifo := { lines := [0], deferred := some portOne } } : State).fifo.deferred ≠ none := by
  unfold State.hits State.roomFor
  constructorm* _ ∧ _ <;> decide

/-! ## Witnesses: sweeps -/

/-- A RUNNING sweep at a way. -/
def sweepAt (s : State) (c : SweepCommand) (f : Option RegionId) (si : SetIdx) (w : WayIdx) : State :=
  { s with sweep := { Sweep.started c f 0 with set := si, way := w } }

theorem witness_CleanStepCopiesDirtyLine :
    (sweepAt running .clean none 127 3).sweeping .clean ∧
    (∀ r, ¬ (sweepAt running .clean none 127 3).concerned r) ∧
    (sweepAt (holding (.dirty (lineOfPage 0 0 noPort))) .clean (some 0) 0 0).concerned 0 ∧
    running.isOffline 0 = false ∧ (draining running [drain 0 77 false, drain 1 78 true]).drains.length = 2 ∧
    (sweepAt (holding (.dirty (lineOfPage 3 3 noPort))) .clean none 0 0).concerned 3 ∧ running.isOffline 3 = true ∧
    (sweepAt (fetching false) .clean none 0 0).concerned 0 := by
  unfold State.sweeping State.concerned
  constructorm* _ ∧ _ <;> decide

theorem witness_FlushStepEvictsLine :
    (sweepAt running .flush none 0 3).sweeping .flush ∧ (∀ r, ¬ (sweepAt running .flush none 0 3).concerned r) ∧
    (sweepAt (fetching false) .flush none 0 0).concerned 0 ∧
    (sweepAt (reserved (holding (.clean (lineOfPage 0 0 portOne))) 2) .flush none 0 0).resOf 0 ≠ none ∧
    (sweepAt (holding (.dirty (lineOfPage 3 3 noPort))) .flush none 0 0).resOf (lineAt 3 0) = none ∧
    (sweepAt (holding (.dirty (lineOfPage 0 0 portOne))) .flush (some 0) 0 0).concerned 0 ∧
    (sweepAt (holding (.dirty (lineOfPage 0 0 portOne))) .flush (some 0) 0 0).roomFor portOne 0 ∧
    ¬ (crowded (sweepAt (holding (.clean (lineOfPage 0 0 portOne))) .flush none 0 0)).roomFor portOne 0 := by
  unfold State.sweeping State.concerned State.roomFor
  constructorm* _ ∧ _ <;> decide

theorem witness_DiscardStepDropsLine :
    (sweepAt running .discard none 5 0).sweeping .discard ∧ (∀ r, ¬ (sweepAt running .discard none 5 0).concerned r) ∧
    (sweepAt (fetching false) .discard none 0 0).concerned 0 ∧
    (sweepAt (reserved (holding (.clean (lineOfPage 0 0 portOne))) 2) .discard none 0 0).resOf 0 ≠ none ∧
    (sweepAt (holding (.dirty (lineOfPage 3 3 portOne))) .discard none 0 0).concerned 3 ∧
    (sweepAt (holding (.dirty (lineOfPage 3 3 portOne))) .discard none 0 0).roomFor portOne (lineAt 3 0) ∧
    ¬ (crowded (sweepAt (holding (.clean (lineOfPage 0 0 portOne))) .discard none 0 0)).roomFor portOne 0 := by
  unfold State.sweeping State.concerned State.roomFor
  constructorm* _ ∧ _ <;> decide

/-! ## Witnesses: the control window -/

theorem witness_WindowChecksAnswerInOrder :
    windowRow .hubState 2 = some .softReset ∧ windowRow .regionCmd 0x600 = some .controlWindowWrite ∧
    (alone (txn .lineRead 0xFFFFF000)).takes 0 (txn .lineRead 0xFFFFF000) ∧ inWindow 0xFFFFF000 = true ∧
    (presenting running 1 (txn .write 0xFFFFF000)).takes 1 (txn .write 0xFFFFF000) ∧
    running.ports[(1 : Port)].permission = false ∧
    (alone (txn .read 0xFFFFF004)).takes 0 (txn .read 0xFFFFF004) ∧ regOf (txn .read 0xFFFFF004) = none ∧
    (alone (txn .write 0xFFFFF07C)).takes 0 (txn .write 0xFFFFF07C) ∧ running.ports[(0 : Port)].permission = true ∧
    regOf (txn .write 0xFFFFF07C) = some .eventStatus ∧ (Reg.regionWord 7 3).offset = 0x17C ∧
    regOf (txn .read 0xFFFFF17F) = some (.regionWord 7 3) ∧ regOf (txn .read 0xFFFFF180) = none := by
  unfold State.takes
  constructorm* _ ∧ _ <;> decide

theorem witness_WindowReadReturnsRegister :
    (alone (txn .read 0xFFFFF17C)).accesses 0 (txn .read 0xFFFFF17C) (.regionWord 7 3) ∧
    (alone (txn .read 0xFFFFF054)).accesses 0 (txn .read 0xFFFFF054) .sweepStatus0 ∧
    (alone (txn .read 0xFFFFF070)).accesses 0 (txn .read 0xFFFFF070) .eventHead0 ∧
    (presenting running 3 (txn .read 0xFFFFF074)).accesses 3 (txn .read 0xFFFFF074) .eventHead1 := by
  unfold State.accesses State.takes
  constructorm* _ ∧ _ <;> decide

theorem witness_ReadBackWordsFollowLayout :
    ({ running with ports := setAt running.ports 1 { running.ports[1] with retry := 15 } } : State).ports[(1 : Port)].retry
      ≤ 15 ∧ running.regions[(7 : RegionId)].count ≤ 7 ∧ running.drains.length ≤ 2 ∧ running.sweep.skipped ≤ 512 ∧
    running.snapshot.drains ≤ 2 ∧ live.events.records.length ≤ 16 ∧ (crowded running).porPin = false ∧
    (crowded running).notices[(1 : Port)].queue ≠ [] ∧ running.notices[(0 : Port)].queue = [] ∧
    (∀ S, SweepState.waitingDrain ≠ .waitingNotice S) := by
  refine ⟨?_, ?_, ?_, ?_, ?_, ?_, ?_, ?_, ?_, nofun⟩ <;> decide

/-- P0's granted write of `v` at an offset of the window. -/
def writing (s : State) (offset v : Word) : State := presenting s 0 { txn .write (0xFFFFF000 + offset) with wdata := v }

/-- A granted write by P0 that reaches its register, shown by its parts. -/
theorem writes_of (s : State) (offset v : Word) (g : Reg)
    (h : (writing s offset v).granted = some (0, { txn .write (0xFFFFF000 + offset) with wdata := v }))
    (hs : s.porPin = false) (hw : inWindow (0xFFFFF000 + offset) = true)
    (hg : regAt (offsetOf (0xFFFFF000 + offset)) = some g) (hp : (writing s offset v).ports[(0 : Port)].permission = true)
    (ha : g.access ≠ .readOnly) : (writing s offset v).writes 0 g v :=
  ⟨_, ⟨⟨hs, h⟩, hw, rfl, hg⟩, rfl, rfl, hp, ha⟩

theorem witness_HubStateAndParameterWrites :
    (writing running 0x00 1).writes 0 .hubState 1 ∧ (writing running 0x30 255).writes 0 .resTime 255 ∧
    (writing running 0x34 256).writes 0 .noticeTime 256 ∧ (writing running 0x38 15).writes 0 .urgency 15 ∧
    (writing running 0x38 16).writes 0 .urgency 16 ∧ (writing running 0x20 0x300).writes 0 .portCmd 0x300 ∧
    (writing running 0x40 0x600).writes 0 .regionCmd 0x600 ∧ (writing running 0x50 5).writes 0 .sweepCmd 5 := by
  refine ⟨writes_of _ _ _ _ ?_ ?_ ?_ ?_ ?_ ?_, writes_of _ _ _ _ ?_ ?_ ?_ ?_ ?_ ?_, writes_of _ _ _ _ ?_ ?_ ?_ ?_ ?_ ?_,
    writes_of _ _ _ _ ?_ ?_ ?_ ?_ ?_ ?_, writes_of _ _ _ _ ?_ ?_ ?_ ?_ ?_ ?_, writes_of _ _ _ _ ?_ ?_ ?_ ?_ ?_ ?_,
    writes_of _ _ _ _ ?_ ?_ ?_ ?_ ?_ ?_, writes_of _ _ _ _ ?_ ?_ ?_ ?_ ?_ ?_⟩ <;> decide

theorem witness_SoftResetClearsEveryBlock :
    (writing live 0x00 2).writes 0 .hubState 2 ∧ (2 : Word).extractLsb' 0 2 = 2 := by
  refine ⟨writes_of _ _ _ _ ?_ ?_ ?_ ?_ ?_ ?_, ?_⟩ <;> decide

/-- P1 DETACHED. -/
def detachedPort : State :=
  { running with ports := setAt running.ports 1 { running.ports[1] with mode := .coherent false } }

theorem witness_PortWritesSetModeAndAttachment :
    (writing running 0x10 0).writes 0 (.portCfg 0) 0 ∧ (∀ i : Port, i ≠ 0 → running.ports[i].permission = false) ∧
    (writing running 0x1C 7).writes 0 (.portCfg 3) 7 ∧ running.ports[(3 : Port)].mode = .plain ∧
    (writing running 0x14 0).writes 0 (.portCfg 1) 0 ∧ running.ports[(1 : Port)].mode = .coherent true ∧
    (writing running 0x20 0x101).writes 0 .portCmd 0x101 ∧ (1 : Port).val = ((0x101 : Word).extractLsb' 0 2).toNat ∧
    (writing detachedPort 0x20 0x201).writes 0 .portCmd 0x201 ∧ detachedPort.ports[(1 : Port)].mode = .coherent false ∧
    (writing running 0x20 0x203).writes 0 .portCmd 0x203 ∧ (3 : Port).val = ((0x203 : Word).extractLsb' 0 2).toNat := by
  refine ⟨writes_of _ _ _ _ ?_ ?_ ?_ ?_ ?_ ?_, ?_, writes_of _ _ _ _ ?_ ?_ ?_ ?_ ?_ ?_, ?_,
    writes_of _ _ _ _ ?_ ?_ ?_ ?_ ?_ ?_, ?_, writes_of _ _ _ _ ?_ ?_ ?_ ?_ ?_ ?_, ?_,
    writes_of _ _ _ _ ?_ ?_ ?_ ?_ ?_ ?_, ?_, writes_of _ _ _ _ ?_ ?_ ?_ ?_ ?_ ?_, ?_⟩ <;> decide

theorem witness_RegionWriteSetsConfiguration :
    (writing running 0x100 0).writes 0 (.regionWord 0 0) 0 ∧ running.regions[(0 : RegionId)].health ≠ .disabled ∧
    (writing running 0x170 0x5000).writes 0 (.regionWord 7 0) 0x5000 ∧
    (writing running 0x174 0x5FFF).writes 0 (.regionWord 7 1) 0x5FFF ∧
    (writing running 0x178 0x00FF7FF1).writes 0 (.regionWord 7 2) 0x00FF7FF1 ∧
    ((0x00FF7FF1 : Word).extractLsb' 0 2).toNat = Width.w8.code ∧ (0x00FF7FF1 : Word).extractLsb' 4 8 ≠ 0 ∧
    (0x00FF7FF1 : Word).extractLsb' 12 3 ≠ 0 ∧ (0x00FF7FF1 : Word).extractLsb' 16 8 ≠ 0 ∧
    (writing running 0x178 0x00FF7FF0).writes 0 (.regionWord 7 2) 0x00FF7FF0 ∧
    (writing running 0x17C 2).writes 0 (.regionWord 7 3) 2 ∧ running.regions[(7 : RegionId)].health = .disabled := by
  refine ⟨writes_of _ _ _ _ ?_ ?_ ?_ ?_ ?_ ?_, ?_, writes_of _ _ _ _ ?_ ?_ ?_ ?_ ?_ ?_, writes_of _ _ _ _ ?_ ?_ ?_ ?_ ?_ ?_,
    writes_of _ _ _ _ ?_ ?_ ?_ ?_ ?_ ?_, ?_, ?_, ?_, ?_, writes_of _ _ _ _ ?_ ?_ ?_ ?_ ?_ ?_,
    writes_of _ _ _ _ ?_ ?_ ?_ ?_ ?_ ?_, ?_⟩ <;> decide

/-- Region 7 DISABLED with a range of its own. -/
def withSeventh (c : RegionConfig) : State :=
  { running with regions := setAt running.regions 7 { Region.init with cfg := c } }

/-- A one-page range at page 5, with the power-on parameters. -/
def fifthPage : RegionConfig := { Region.init.cfg with base := 5, limit := 5 }

theorem witness_EnableAndDisableCheckRegion :
    (writing (withSeventh fifthPage) 0x40 0x107).writes 0 .regionCmd 0x107 ∧
    (7 : RegionId).val = ((0x107 : Word).extractLsb' 0 3).toNat ∧
    fifthPage.base ≤ fifthPage.limit ∧
    fifthPage.probeOffset.toNat < (fifthPage.limit.toNat - fifthPage.base.toNat + 1) * 4096 ∧
    fifthPage.limit ≠ 0xFFFFF ∧
    (writing (withSeventh { fifthPage with probeOffset := 4096 }) 0x40 0x107).writes 0 .regionCmd 0x107 ∧
    (fifthPage.limit.toNat - fifthPage.base.toNat + 1) * 4096 ≤ (4096 : Word).toNat ∧
    (writing running 0x40 0x100).writes 0 .regionCmd 0x100 ∧
    (writing running 0x40 0x204).writes 0 .regionCmd 0x204 ∧ running.regions[(4 : RegionId)].health ≠ .disabled ∧
    (writing (holding (.clean (lineOfPage 0 0 noPort))) 0x40 0x200).writes 0 .regionCmd 0x200 ∧
    ((holding (.clean (lineOfPage 0 0 noPort))).entry 0 0).region? = some 0 ∧
    (writing running 0x40 0x207).writes 0 .regionCmd 0x207 := by
  refine ⟨writes_of _ _ _ _ ?_ ?_ ?_ ?_ ?_ ?_, ?_, ?_, ?_, ?_, writes_of _ _ _ _ ?_ ?_ ?_ ?_ ?_ ?_, ?_,
    writes_of _ _ _ _ ?_ ?_ ?_ ?_ ?_ ?_, writes_of _ _ _ _ ?_ ?_ ?_ ?_ ?_ ?_, ?_, writes_of _ _ _ _ ?_ ?_ ?_ ?_ ?_ ?_, ?_,
    writes_of _ _ _ _ ?_ ?_ ?_ ?_ ?_ ?_⟩ <;> decide

theorem witness_ForceProbeAndForceOnline :
    (writing probing 0x40 0x303).writes 0 .regionCmd 0x303 ∧ (3 : RegionId).val = ((0x303 : Word).extractLsb' 0 3).toNat ∧
    probing.regions[(3 : RegionId)].health = .offline ∧ probing.regions[(3 : RegionId)].probeTimer ≠ none ∧
    (writing running 0x40 0x307).writes 0 .regionCmd 0x307 ∧ running.regions[(7 : RegionId)].health = .disabled ∧
    (writing (busy running (work .probe 3) (beat 3 true) []) 0x40 0x403).writes 0 .regionCmd 0x403 ∧
    (writing clearing 0x40 0x400).writes 0 .regionCmd 0x400 ∧ running.regions[(0 : RegionId)].health = .online := by
  refine ⟨writes_of _ _ _ _ ?_ ?_ ?_ ?_ ?_ ?_, ?_, ?_, ?_, writes_of _ _ _ _ ?_ ?_ ?_ ?_ ?_ ?_, ?_,
    writes_of _ _ _ _ ?_ ?_ ?_ ?_ ?_ ?_, writes_of _ _ _ _ ?_ ?_ ?_ ?_ ?_ ?_, ?_⟩ <;> decide

theorem witness_RegionGoingOfflineHandsOnItsWork :
    (busy (almost (fetching false)) (fillOp 0 0 0 0) (beat 0 false) []).underWay (fillOp 0 0 0 0) [] (beat 0 false) 8 []
      0 [] ∧
    (busy (almost (fetching false)) (fillOp 0 0 0 0) (beat 0 false) []).noneSooner 8 ∧
    (busy (almost (fetching false)) (fillOp 0 0 0 0) (beat 0 false) []).placesDistinct ∧
    (fillOp 0 0 0 0).kind ≠ .probe ∧ (almost running).regions[(0 : RegionId)].health = .online ∧
    (almost running).regions[(0 : RegionId)].cfg.threshold.toNat ≤ (almost running).regions[(0 : RegionId)].count + 1 ∧
    (busy (almost (draining running [drain 1 77 false, drain 0 77 false])) (drain 1 77 false).op (beat 0 true)
      []).underWay (drain 1 77 false).op [] (beat 0 true) 8 [] 0 [] ∧
    (busy (almost (draining running [drain 1 77 false, drain 0 77 false])) (drain 1 77 false).op (beat 0 true)
      []).supersedes (drain 1 77 false).op ∧
    (writing (busy running (work (.portRead 2) 0) (beat 0 true) []) 0x40 0x500).writes 0 .regionCmd 0x500 ∧
    (0 : RegionId).val = ((0x500 : Word).extractLsb' 0 3).toNat ∧ (0x500 : Word).extractLsb' 8 3 = 5 ∧
    (writing (busy running (work (.portRead 2) 0) (beat 0 true) []) 0x40 0x500).placesDistinct ∧
    (writing running 0x40 0x503).writes 0 .regionCmd 0x503 ∧ running.regions[(3 : RegionId)].health = .offline ∧
    (writing running 0x40 0x507).writes 0 .regionCmd 0x507 := by
  refine ⟨by unfold State.underWay; decide, by unfold State.noneSooner; decide, by unfold State.placesDistinct; decide,
    by decide, by decide, by decide, by unfold State.underWay; decide,
    ⟨1, [], drain 1 77 false, [drain 0 77 false], rfl, rfl, rfl, by decide, by decide⟩,
    writes_of _ _ _ _ ?_ ?_ ?_ ?_ ?_ ?_, ?_, ?_, by unfold State.placesDistinct; decide,
    writes_of _ _ _ _ ?_ ?_ ?_ ?_ ?_ ?_, ?_, writes_of _ _ _ _ ?_ ?_ ?_ ?_ ?_ ?_⟩ <;> decide

theorem witness_SweepCommandsStartAndAbort :
    (writing running 0x50 0x81).writes 0 .sweepCmd 0x81 ∧ running.sweep.state = .idle ∧
    (writing running 0x50 0x02).writes 0 .sweepCmd 0x02 ∧ (0x02 : Word).getLsbD 7 = false ∧
    (writing running 0x50 0x73).writes 0 .sweepCmd 0x73 ∧ (7 : RegionId).val = ((0x73 : Word).extractLsb' 4 3).toNat ∧
    running.regions[(7 : RegionId)].health = .disabled ∧
    (writing (sweepAt running .clean none 9 1) 0x50 4).writes 0 .sweepCmd 4 ∧
    (sweepAt running .clean none 9 1).sweep.state ≠ .idle := by
  refine ⟨writes_of _ _ _ _ ?_ ?_ ?_ ?_ ?_ ?_, ?_, writes_of _ _ _ _ ?_ ?_ ?_ ?_ ?_ ?_, ?_,
    writes_of _ _ _ _ ?_ ?_ ?_ ?_ ?_ ?_, ?_, ?_, writes_of _ _ _ _ ?_ ?_ ?_ ?_ ?_ ?_, ?_⟩ <;> decide

theorem witness_LineQueryTakesSnapshot :
    (writing running 0x60 0xFFFFFFFF).writes 0 .lineQuery0 0xFFFFFFFF ∧
    running.lookup ((0xFFFFFFFF : Word).extractLsb' 5 27) = none ∧
    (writing (reserved (holding (.dirty (lineOfPage 0 0 portOne))) 2) 0x60 0x1F).writes 0 .lineQuery0 0x1F ∧
    (reserved (holding (.dirty (lineOfPage 0 0 portOne))) 2).lookup 0 = some 0 ∧
    (reserved (holding (.dirty (lineOfPage 0 0 portOne))) 2).resOf 0 = some 5 ∧
    (writing (fetching false) 0x60 0).writes 0 .lineQuery0 0 ∧ (fetching false).entry 0 0 = .filling 0 0 0 := by
  refine ⟨writes_of _ _ _ _ ?_ ?_ ?_ ?_ ?_ ?_, ?_, writes_of _ _ _ _ ?_ ?_ ?_ ?_ ?_ ?_, ?_, ?_,
    writes_of _ _ _ _ ?_ ?_ ?_ ?_ ?_ ?_, ?_⟩ <;> decide

theorem witness_EventQueueStoresAndPops :
    (writing running 0x78 0).writes 0 .eventPop 0 ∧ running.events.records = [] ∧
    (writing live 0x78 9).writes 0 .eventPop 9 ∧ live.events.records = [.hubReset 0] ∧
    (List.replicate 15 (Event.hubReset 0)).length < 16 ∧ 16 ≤ (List.replicate 16 (Event.hubReset 0)).length := by
  refine ⟨writes_of _ _ _ _ ?_ ?_ ?_ ?_ ?_ ?_, ?_, writes_of _ _ _ _ ?_ ?_ ?_ ?_ ?_ ?_, ?_, ?_, ?_⟩ <;> decide

end Sys2Proof.Tests
end

/-! ## Resets and the ports -/

namespace Sys2Proof.Machine

/-- Two states with the same fields are the same. -/
@[ext] theorem State.ext {s t : State} (pending : s.pending = t.pending) (porPin : s.porPin = t.porPin)
    (hub : s.hub = t.hub) (ports : s.ports = t.ports) (lastGranted : s.lastGranted = t.lastGranted)
    (urgency : s.urgency = t.urgency) (dir : s.dir = t.dir) (slots : s.slots = t.slots) (drains : s.drains = t.drains)
    (res : s.res = t.res) (resTime : s.resTime = t.resTime) (notices : s.notices = t.notices)
    (noticeTime : s.noticeTime = t.noticeTime) (fifo : s.fifo = t.fifo) (regions : s.regions = t.regions)
    (dev : s.dev = t.dev) (sweep : s.sweep = t.sweep) (snapshot : s.snapshot = t.snapshot)
    (events : s.events = t.events) (latches : s.latches = t.latches) (fresh : s.fresh = t.fresh)
    (out : s.out = t.out) : s = t := by
  cases s
  cases t
  congr

/-! ### What an emptied notice queue lets go on (R125, R174) -/

/-- A set without port `k` in any sharer set, written out by the state of its ways (R50). -/
theorem DirSet.dropSharer_eq (d : DirSet) (k : Port) :
    d.dropSharer k = { d with ways := mapAll d.ways fun e => match e with
      | .clean h => .clean { h with sharers := setAt h.sharers k false }
      | .dirty h => .dirty { h with sharers := setAt h.sharers k false }
      | .invalid => .invalid
      | .filling tag r i => .filling tag r i } := by
  have hf : Entry.dropSharer k = fun e => match e with
      | .clean h => .clean { h with sharers := setAt h.sharers k false }
      | .dirty h => .dirty { h with sharers := setAt h.sharers k false }
      | .invalid => .invalid
      | .filling tag r i => .filling tag r i := by
    funext e
    cases e <;> rfl
  rw [DirSet.dropSharer, hf]

/-- Port `k` with its notice queue emptied and out of every sharer set (R50, R113). -/
theorem emptyNotices_dropSharer (s : State) (k : Port) : (s.emptyNotices k).dropSharer k = s.unshared k := by
  have hdir : (mapAll s.dir fun d => d.dropSharer k) = (s.unshared k).dir := by
    simp only [DirSet.dropSharer_eq]
    rfl
  have hfifo : (if s.notices[k].queue.isEmpty then s.fifo else s.fifo.roomGained k) = (s.unshared k).fifo := by
    cases hd : s.fifo.deferred <;> cases hq : s.notices[k].queue <;>
      simp [-Fin.getElem_fin, State.unshared, ForeignFifo.roomGained, hd, hq]
  have hsweep : (if s.notices[k].queue.isEmpty then s.sweep else s.sweep.roomGained k) = (s.unshared k).sweep := by
    cases hd : s.sweep.state <;> cases hq : s.notices[k].queue <;>
      simp [-Fin.getElem_fin, State.unshared, Sweep.roomGained, hd, hq]
  exact State.ext rfl rfl rfl rfl rfl rfl hdir rfl rfl rfl rfl rfl rfl hfifo rfl rfl hsweep rfl rfl rfl rfl rfl

/-! ### What port reset abandons -/

/-- A WRITE_LOST record changes the event queue alone. -/
theorem recordLost_eq (s : State) (op : Operation) (how : LostHow) :
    s.recordLost op how = { s with events := (s.recordLost op how).events } := by
  unfold State.recordLost
  split <;> rfl

/-- A discarded parked operation leaves a record at most. -/
theorem recordAbandoned_eq (s : State) (k : Port) :
    s.recordAbandoned k = { s with events := (s.recordAbandoned k).events } := by
  unfold State.recordAbandoned
  split
  · rfl
  · exact recordLost_eq _ _ _

/-- Abandoning a transaction concerns its fill slot, the Device Port and the event queue alone. -/
theorem abandonFlight_eq (s : State) (k : Port) :
    s.abandonFlight k = { s with
      slots := (s.abandonFlight k).slots
      dev := (s.abandonFlight k).dev
      events := (s.abandonFlight k).events } := by
  unfold State.abandonFlight
  split
  case h_5 =>
    rw [recordAbandoned_eq]
  all_goals rfl

/-- The reservations port `k` owns are freed (R94). -/
theorem freeOwned_entry (k : Port) (x : Option Reservation) :
    (if ownedBy k x then none else x) = match x with
      | none => none
      | some y => if y.owner = k then none else some y := by
  cases x <;> simp [ownedBy]

/-- Port reset in terms of what it abandons: the port, its reservations, notices, sharer marks and latch (R22). -/
theorem portReset_eq (s : State) (k : Port) :
    s.portReset k = { s.unshared k with
      ports := setAt s.ports k s.ports[k].wasReset
      res := mapAll s.res fun x => if ownedBy k x then none else x
      latches := setAt s.latches k 0
      slots := (s.abandonFlight k).slots
      dev := (s.abandonFlight k).dev
      events := (s.abandonFlight k).events } := by
  rw [State.portReset, abandonFlight_eq, emptyNotices_dropSharer]
  apply State.ext
  case ports => exact (rfl : setAt s.ports k s.ports[k].wasReset = _)
  all_goals rfl

/-- PORT_RESET with the power-on reset pin deasserted is port reset. -/
theorem exec_portReset {s : State} (k : Port) (hp : s.porPin = false) :
    exec (.portReset k) s = .next (s.quiet.portReset k) := by
  simp [exec, execPortReset, hp]

/-- A port operation of port `k` is abandoned where it stands on the queue: it has no owner (R148). -/
theorem disown_eq (k : Port) (op : Operation) :
    op.disown k = if op.kind = .portRead k ∨ op.kind = .portWrite k true ∨ op.kind = .portWrite k false then
      { op with owner := none } else op := by
  cases hk : op.kind with
  | portWrite j wt => cases wt <;> simp [Operation.disown, hk]
  | _ => simp [Operation.disown, hk]

/-- The record of a lost write, made for a write-through write alone (R147). -/
theorem recordLost_events (s : State) (op : Operation) (how : LostHow) :
    (∃ j, op.kind = .portWrite j true ∧
        (s.recordLost op how).events = s.events.push (.writeLost how j op.region op.line)) ∨
      (∀ j, op.kind ≠ .portWrite j true) ∧ (s.recordLost op how).events = s.events := by
  cases hk : op.kind with
  | portWrite j wt => cases wt <;> simp [State.recordLost, hk]
  | _ => simp [State.recordLost, hk]

/-! ### Port reset at power-on (R195) -/

/-- A vector of one value is left as it is by a change that leaves the value. -/
theorem mapAll_replicate {α : Type} {n : Nat} {f : α → α} {a : α} (h : f a = a) :
    mapAll (Vector.replicate n a) f = Vector.replicate n a := by
  ext i hi
  simp [mapAll, h]

/-- A vector of one value keeps it where it is written again. -/
theorem setAt_replicate {α : Type} {n : Nat} (i : Fin n) (a : α) :
    setAt (Vector.replicate n a) i a = Vector.replicate n a := by
  ext j hj
  simp [setAt]

/-- No port shares a line of an INVALID set. -/
theorem DirSet.init_dropSharer (k : Port) : DirSet.init.dropSharer k = DirSet.init := by
  rw [DirSet.dropSharer, show mapAll DirSet.init.ways (Entry.dropSharer k) = DirSet.init.ways from mapAll_replicate rfl]

/-- At power-on there is no notice and no sharer to lose. -/
theorem unshared_atPowerOn (s : State) (pin : Bool) (k : Port) : (s.atPowerOn pin).unshared k = s.atPowerOn pin := by
  have hdir : (mapAll (Vector.replicate 128 DirSet.init) fun d => d.dropSharer k) = Vector.replicate 128 DirSet.init :=
    mapAll_replicate (DirSet.init_dropSharer k)
  rw [← emptyNotices_dropSharer]
  apply State.ext
  case dir => exact hdir
  case notices => exact setAt_replicate k NoticeQueue.empty
  case fifo => exact ite_self _
  case sweep => exact ite_self _
  all_goals rfl

/-- A port at power-on has its power-on values but for the level of its reset line (R195). -/
theorem atPowerOn_port (s : State) (pin : Bool) (k : Port) :
    (s.atPowerOn pin).ports[k] = { State.reset.ports[k] with resetLine := s.ports[k].resetLine } := by
  simp [State.atPowerOn]

/-- Port reset leaves a port alone that is at its power-on values with its line asserted. -/
theorem portReset_atPowerOn (s : State) (pin : Bool) (k : Port) (h : s.ports[k].resetLine = true) :
    (s.atPowerOn pin).portReset k = s.atPowerOn pin := by
  have hport : (s.atPowerOn pin).ports[k].wasReset = (s.atPowerOn pin).ports[k] := by
    have hf : ∀ k : Port, State.reset.ports[k].flight = none ∧ State.reset.ports[k].retry = 0 := by decide
    rw [atPowerOn_port, h, MasterPort.mk.injEq]
    exact ⟨(hf k).1.symm, (hf k).2.symm, rfl, rfl, rfl, rfl⟩
  have hflight : (s.atPowerOn pin).abandonFlight k = s.atPowerOn pin := by
    have hf : (s.atPowerOn pin).ports[k].flight = none := by
      rw [← hport]
      rfl
    simp only [State.abandonFlight, hf]
  rw [portReset_eq, unshared_atPowerOn, hflight, hport, setAt_self]
  apply State.ext
  case res => exact mapAll_replicate rfl
  case latches => exact setAt_replicate k 0
  all_goals rfl

/-- As the pin is deasserted, the ports whose reset line is asserted are at their power-on values already. -/
theorem resetAsserted_atPowerOn (s : State) (pin : Bool) : (s.atPowerOn pin).resetAsserted = s.atPowerOn pin := by
  refine List.foldl_fixed' (fun k => ?_) allPorts
  have hl : (s.atPowerOn pin).ports[k].resetLine = s.ports[k].resetLine := by
    rw [atPowerOn_port]
  split
  · next h => exact portReset_atPowerOn s pin k (hl ▸ h)
  · rfl

/-! ### The obligations on resets -/

/-- Settles O13: the condition of the happening is the port's own (R5). -/
theorem acceptancePlacesTransactionAtPort : Obligations.AcceptancePlacesTransactionAtPort := by
  unfold Obligations.AcceptancePlacesTransactionAtPort
  intro k t s hp
  constructor
  · intro hf hr
    have ha : s.accepts k = true := by simp [-Fin.getElem_fin, State.accepts, hf, hr]
    exact (happen_of (f := fun s => s.accept k t) hp ha).trans rfl
  · intro hb
    have ha : s.accepts k = false := by
      rcases hb with hf | hr
      · cases hs : s.ports[k].flight with
        | none => exact absurd hs hf
        | some p => simp [-Fin.getElem_fin, State.accepts, hs]
      · simp [-Fin.getElem_fin, State.accepts, hr]
    exact happen_not (f := fun s => s.accept k t) ha

/-- Settles O14, by the equation of port reset. -/
theorem portResetClearsPort : Obligations.PortResetClearsPort := by
  unfold Obligations.PortResetClearsPort
  intro k s hp
  refine ⟨_, exec_portReset k hp, ?_⟩
  simp only [portReset_eq, freeOwned_entry, State.unshared]
  rfl

/-- Settles O15, by the placement of the transaction. -/
theorem portResetAbandonsTransaction : Obligations.PortResetAbandonsTransaction := by
  unfold Obligations.PortResetAbandonsTransaction
  intro k s t hp ht
  rw [exec_portReset k hp, portReset_eq] at ht
  obtain rfl : _ = t := by simpa using ht
  refine ⟨?_, ?_, ?_, ?_, ?_⟩
  · rintro (hf | ⟨x, hf⟩) <;> simp [-Fin.getElem_fin, State.abandonFlight, hf]
  · intro i f hf hs
    simp [-Fin.getElem_fin, State.abandonFlight, hf, hs, Fill.abandonRequester]
  · intro i f hf hs
    simp [-Fin.getElem_fin, State.abandonFlight, hf, hs, Fill.abandonWaiter]
  · intro hf hs
    simp [-Fin.getElem_fin, State.abandonFlight, hf, hs, State.recordAbandoned, Place.parked, DevicePort.abandon,
      disown_eq]
  · intro op hf hs
    have hr : s.quiet.recordAbandoned k = s.quiet.recordLost op .abandoned := by
      simp [-Fin.getElem_fin, State.recordAbandoned, hs, Place.parked]
    have hd : s.dev.abandon k = { s.dev with places := setAt s.dev.places k (.orphaned none) } := by
      simp [-Fin.getElem_fin, DevicePort.abandon, hs]
    have hslots : (s.quiet.recordLost op .abandoned).slots = s.slots := by rw [recordLost_eq]; rfl
    have ha : s.quiet.abandonFlight k = { s.quiet.recordLost op .abandoned with dev := s.dev.abandon k } := by
      simp only [State.abandonFlight, State.quiet_ports, hf, hr]
      rfl
    rw [ha]
    exact ⟨hslots, hd, recordLost_events s.quiet op .abandoned⟩

/-- Settles O17: the values of `State.reset` (R8, R16, R128). -/
theorem resetLeavesPowerOnValues : Obligations.ResetLeavesPowerOnValues := by
  unfold Obligations.ResetLeavesPowerOnValues
  have hports : ∀ k : Port, State.reset.ports[k].flight = none ∧ State.reset.ports[k].retry = 0 ∧
      State.reset.ports[k].mode = .plain ∧ State.reset.ports[k].eventEnable = false ∧
      (State.reset.ports[k].permission = true ↔ k = 0) ∧ State.reset.notices[k] = { queue := [], timer := none } ∧
      State.reset.latches[k] = 0 ∧ State.reset.dev.places[k] = .free := by decide
  have hdir : ∀ si : SetIdx, State.reset.dir[si] = DirSet.init := fun si => by
    simp [State.reset]
  have hways : ∀ w : WayIdx, DirSet.init.ways[w] = .invalid := by decide
  have hregions : ∀ r : RegionId, State.reset.regions[r] = Region.init := by decide
  refine ⟨rfl, rfl, rfl, rfl, rfl, hports, fun si => ?_, by decide, rfl, by decide, rfl, hregions, ?_⟩
  · rw [hdir]
    exact ⟨rfl, hways⟩
  · exact ⟨rfl, rfl, rfl, rfl, rfl, rfl, rfl, rfl, rfl, rfl, rfl, rfl, rfl, rfl⟩

/-- Settles O16: neither the pin nor the lines do more than take a level and reset the blocks (R22, R195). -/
theorem resetLinesAndPinTakeLevels : Obligations.ResetLinesAndPinTakeLevels := by
  unfold Obligations.ResetLinesAndPinTakeLevels
  refine ⟨fun k s hp => ?_, fun s => rfl, fun s hp => ?_, fun s hp => ?_⟩
  · simp only [exec, execPortResetDeassert, hp, Bool.false_eq_true, if_false]
    rw [← hp]
    rfl
  · simp only [exec, execPowerOnReset, hp, resetAsserted_atPowerOn, Bool.false_eq_true, if_false, if_true]
    rfl
  · simp [exec, execPowerOnReset, hp]

end Sys2Proof.Machine

/-! ## The Intake Arbiter and the intake checks -/

namespace Sys2Proof.Machine

/-! ### The Intake Arbiter (R14, R15) -/

/-- The transaction that waits at a port is the one placed AT_PORT (R6). -/
theorem waiting_eq_some {p : MasterPort} {t : Transaction} : p.waiting = some t ↔ p.flight = some (.atPort t) := by
  unfold MasterPort.waiting
  split <;> simp_all

/-- A port has a waiting transaction when one is placed AT_PORT. -/
theorem waiting_isSome {p : MasterPort} : p.waiting.isSome = true ↔ ∃ t, p.flight = some (.atPort t) := by
  simp [Option.isSome_iff_exists, waiting_eq_some]

/-- A port is URGENT when its retry count is at least URGENCY (R14). -/
theorem urgent_iff {s : State} {k : Port} : s.urgent k = true ↔ s.urgency.toNat ≤ s.ports[k].retry := by
  simp [State.urgent]

/-- The candidates of step 1: the waiting ports, cut down to the URGENT ones if one of them is (R15). -/
theorem candidate_iff {s : State} {k : Port} : s.candidate k = true ↔
    (∃ t, s.ports[k].flight = some (.atPort t)) ∧
      ((∃ j : Port, (∃ t, s.ports[j].flight = some (.atPort t)) ∧ s.urgency.toNat ≤ s.ports[j].retry) →
        s.urgency.toNat ≤ s.ports[k].retry) := by
  have hall : ∀ j : Port, j ∈ allPorts := by decide
  have hany : (allPorts.any fun j => s.ports[j].waiting.isSome && s.urgent j) = true ↔
      ∃ j : Port, (∃ t, s.ports[j].flight = some (.atPort t)) ∧ s.urgency.toNat ≤ s.ports[j].retry := by
    simp only [List.any_eq_true, Bool.and_eq_true, waiting_isSome, urgent_iff, hall, true_and]
  rw [State.candidate, Bool.and_eq_true, waiting_isSome, ← hany, Bool.or_eq_true, urgent_iff, Bool.not_eq_true',
    ← Bool.not_eq_true]
  tauto

/-- The rotating order runs by the distance from the port after the last-granted one (R15). -/
theorem rotation_pairwise (last : Port) :
    (rotation last).Pairwise fun a b => (a - (last + 1)).val < (b - (last + 1)).val := by
  revert last
  decide

/-- Every port stands in the rotating order. -/
theorem mem_rotation (last j : Port) : j ∈ rotation last := by
  revert last j
  decide

/-- The port found is the first of the rotating order that meets the condition. -/
theorem rotation_find_first {last k j : Port} {p : Port → Bool} (hk : (rotation last).find? p = some k)
    (hj : p j = true) : (k - (last + 1)).val ≤ (j - (last + 1)).val := by
  obtain ⟨-, before, after, hsplit, hbefore⟩ := List.find?_eq_some_iff_append.mp hk
  have hpair := rotation_pairwise last
  have hmem := mem_rotation last j
  rw [hsplit, List.pairwise_append] at hpair
  rw [hsplit, List.mem_append, List.mem_cons] at hmem
  rcases hmem with hm | rfl | hm
  · exact absurd (hbefore j hm) (by simp [hj])
  · exact le_rfl
  · exact (List.rel_of_pairwise_cons hpair.2.1 hm).le

/-- The granted port's transaction is placed AT_PORT (R6, R15). -/
theorem granted_flight {s : State} {k : Port} {t : Transaction} (h : s.granted = some (k, t)) :
    s.ports[k].flight = some (.atPort t) := by
  simp only [State.granted, Option.bind_eq_some_iff, Option.map_eq_some_iff, Prod.mk.injEq] at h
  obtain ⟨j, -, u, hu, rfl, rfl⟩ := h
  exact waiting_eq_some.mp hu

/-- Settles O18: a candidate is any waiting port of the granted port's class, and the first of them is granted. -/
theorem arbiterGrantsUrgentFirstInRotation : Obligations.ArbiterGrantsUrgentFirstInRotation := by
  unfold Obligations.ArbiterGrantsUrgentFirstInRotation
  intro s
  constructor
  · simp only [State.grantedPort, List.find?_eq_none, mem_rotation, true_implies, candidate_iff]
    constructor
    · intro hnone j t hj
      by_cases hu : ∃ i : Port, (∃ t, s.ports[i].flight = some (.atPort t)) ∧ s.urgency.toNat ≤ s.ports[i].retry
      · obtain ⟨i, hi, hui⟩ := hu
        exact hnone i ⟨hi, fun _ => hui⟩
      · exact hnone j ⟨⟨t, hj⟩, fun h => absurd h hu⟩
    · rintro hnone k ⟨⟨t, ht⟩, -⟩
      exact hnone k t ht
  · intro k hk
    obtain ⟨⟨t, ht⟩, hurgent⟩ := candidate_iff.mp (List.find?_some hk)
    refine ⟨⟨t, ht, ?_⟩, hurgent, fun j hj hclass => ?_⟩
    · simp [-Fin.getElem_fin, State.granted, hk, waiting_eq_some.mpr ht]
    · exact rotation_find_first hk (candidate_iff.mpr ⟨hj, fun hu => hclass (hurgent hu)⟩)

/-! ### The intake checks (R17 to R21) -/

/-- Settles O19, by the order of the checks in the intake. -/
theorem intakeChecksAnswerFaultsInOrder : Obligations.IntakeChecksAnswerFaultsInOrder := by
  unfold Obligations.IntakeChecksAnswerFaultsInOrder
  intro s k t ht hw
  have hshape (hl : t.kind.usesLanes = true → legalShape t.lanes = true) :
      ¬(t.kind.usesLanes && !legalShape t.lanes) = true := by
    simpa using hl
  have hhub (hr : s.hub = .run) : ¬((s.taken k).hub = .config ∧ (!inWindow t.addr) = true) := by
    simp [State.taken, hr]
  have hwin : ¬inWindow t.addr = true := by simp [hw]
  rw [exec_command ht]
  simp only [State.intake, ← taken_respond, Host.Outcome.next.injEq]
  refine ⟨fun hc => ?_, fun hr hu hl => ?_, fun hr hl hg => ?_, fun r hr hl hg hk hc => ?_⟩
  · exact if_pos ⟨hc, by simp [hw]⟩
  · rw [if_neg (hhub hr), if_neg hwin, if_pos (by simp [hu, hl])]
  · have hg' : (s.taken k).regionAt t.addr = none := hg
    rw [if_neg (hhub hr), if_neg hwin, if_neg (hshape hl), hg']
  · have hg' : (s.taken k).regionAt t.addr = some r := hg
    have hc' : (t.kind.isReservation && !(s.taken k).regions[r].cfg.cacheable) = true := by
      rw [hk, show (s.taken k).regions[r].cfg.cacheable = false from hc]
      rfl
    rw [if_neg (hhub hr), if_neg hwin, if_neg (hshape hl), hg']
    exact if_pos hc'

end Sys2Proof.Machine

/-! ## The control window -/

namespace Sys2Proof.Machine

/-! ### Soft reset (R24, R150, R182) -/

/-- A region after soft reset, by whether it was enabled (R150). -/
theorem Region.softReset_eq (g : Region) :
    g.softReset = if g.health = .disabled then g else { g with health := .online, count := 0, probeTimer := none } := by
  cases h : g.health <;> simp [Region.softReset, h]

/-- The issuing write is answered DONE and every other transaction in flight FAULT RESET (R24). -/
theorem softResetResponses_perm (ports : Vector MasterPort 4) (k : Port) :
    (softResetResponses ports k).Perm
      ((k, .done .nothing) :: (allPorts.filter fun j => j != k && ports[j].flight.isSome).map fun j =>
        (j, .fault .reset)) :=
  List.perm_append_comm

/-- Settles O53: the row takes the write of RESET, and its effect gives every block at once (R182). -/
theorem softResetClearsEveryBlock : Obligations.SoftResetClearsEveryBlock := by
  unfold Obligations.SoftResetClearsEveryBlock
  intro s k v hw hv
  have hcmd : (hubCmd v == 2) = true := by simp [hubCmd, hv]
  have hpin : s.porPin = false := by
    obtain ⟨t, ⟨htakes, -⟩, -⟩ := hw
    exact htakes.1
  refine ⟨softResetResponses s.ports k, softResetResponses_perm s.ports k, ?_⟩
  have hexec : exec .softReset s = .next ((s.taken k).softReset k) :=
    takeWrite_of (effect := fun s k _ => s.softReset k) hw rfl hcmd
  have hregions : Region.softReset = fun g =>
      if g.health = .disabled then g else { g with health := .online, count := 0, probeTimer := none } :=
    funext Region.softReset_eq
  rw [hexec, State.softReset, hregions]
  congr 1
  apply State.ext
  case porPin => exact hpin
  case out => exact congrArg outputs (List.nil_append _)
  all_goals rfl

/-! ### The registers of the window (R179, R183) -/

/-- The offset of a register names it (R183). -/
theorem regAt_offset (g : Reg) : regAt g.offset = some g := by
  cases g with
  | portCfg k =>
    revert k
    decide
  | regionWord n w =>
    revert n w
    decide
  | _ => rfl

/-- A chain of cases that names something does so by its first case or by the rest. -/
theorem ite_some_cases {α : Type} {p : Prop} [Decidable p] {a b : α} {x : Option α}
    (h : (if p then some a else x) = some b) : (p ∧ a = b) ∨ x = some b := by
  split at h
  · next hp => exact .inl ⟨hp, Option.some.inj h⟩
  · exact .inr h

/-- An offset that names a register is the register's own (R183). -/
theorem offset_of_regAt {off : Nat} {g : Reg} (h : regAt off = some g) : off = g.offset := by
  unfold regAt at h
  iterate 19
    rcases ite_some_cases h with ⟨rfl, rfl⟩ | h
    · rfl
  obtain ⟨hr, rfl⟩ | h := ite_some_cases h
  · simp only [Bool.and_eq_true, decide_eq_true_eq] at hr
    simp only [Reg.offset, Fin.val_ofNat]
    omega
  · cases h

/-- Address bits 11:2 name the register whose offset they give (R1, R179, R183). -/
theorem regOf_eq_some {t : Transaction} {g : Reg} :
    regOf t = some g ↔ 4 * (t.addr.extractLsb' 2 10).toNat = g.offset := by
  rw [regOf, offsetOf, Nat.mul_comm]
  constructor
  · exact offset_of_regAt
  · rintro h
    rw [h, regAt_offset]

/-- The read-only registers (R183, the third column). -/
theorem access_readOnly (g : Reg) : g.access = .readOnly ↔ g = .sweepStatus0 ∨ g = .sweepStatus1 ∨ g = .lineQuery1 ∨
    g = .eventHead0 ∨ g = .eventHead1 ∨ g = .eventStatus := by
  cases g <;> simp [Reg.access]

/-- The registers that are written only (R183, the third column). -/
theorem access_writeOnly (g : Reg) :
    g.access = .writeOnly ↔ g = .portCmd ∨ g = .regionCmd ∨ g = .sweepCmd ∨ g = .eventPop := by
  cases g <;> simp [Reg.access]

/-! ### The checks on an access (R179) -/

/-- A granted access to the window is answered by the first check it fails, in either hub state (R17, R179). -/
theorem exec_window_refused {s : State} {k : Port} {t : Transaction} {c : FaultCause} (ht : s.takes k t)
    (hw : inWindow t.addr = true) (hc : s.accessRefusal k t = some c) :
    exec t.kind.command s = .next (s.answering k (.fault c)) := by
  rw [exec_command ht, State.intake, if_neg (by simp [hw]), if_pos hw, State.controlAccess, State.checkedAccess,
    show (s.taken k).accessRefusal k t = some c from hc]
  exact congrArg _ (taken_respond s k (.fault c))

/-- A granted WRITE to the window that passes the checks has its register's effect (R180). -/
theorem exec_write_window {s : State} {k : Port} {g : Reg} {v : Word} (h : s.writes k g v) :
    exec .write s = .next ((s.taken k).writeWindow k g v) := by
  obtain ⟨t, hacc, hk, rfl, hp, hr⟩ := h
  have ⟨ht, hw, _, hg⟩ := hacc
  rw [show Instr.write = t.kind.command by rw [hk]; rfl, exec_command ht, State.intake, if_neg (by simp [hw]),
    if_pos hw, State.controlAccess, checkedAccess_of hacc (.inr hk) fun _ => ⟨hp, hr⟩, hg]
  simp [hk]

/-- The kinds and lanes of step 1 (R179). -/
theorem accessRefusal_shape {s : State} {k : Port} {t : Transaction}
    (h : (t.kind ≠ .read ∧ t.kind ≠ .write) ∨ t.lanes ≠ 0b1111) : s.accessRefusal k t = some .control := by
  have hb : (!((t.kind == .read || t.kind == .write) && t.lanes == 0b1111)) = true := by
    rcases h with ⟨hr, hw⟩ | hl
    · simp [hr, hw]
    · rw [beq_false_of_ne hl, Bool.and_false]
      rfl
  rw [State.accessRefusal, if_pos hb]

/-- Control permission, step 2 (R179). -/
theorem accessRefusal_denied {s : State} {k : Port} {t : Transaction} (hk : t.kind = .write) (hl : t.lanes = 0b1111)
    (hp : s.ports[k].permission = false) : s.accessRefusal k t = some .denied := by
  simp [-Fin.getElem_fin, State.accessRefusal, hk, hl, hp]

/-- An access that passes steps 1 and 2 to an unassigned offset, step 3 (R179). -/
theorem accessRefusal_unassigned {s : State} {k : Port} {t : Transaction}
    (hk : t.kind = .read ∨ (t.kind = .write ∧ s.ports[k].permission = true)) (hl : t.lanes = 0b1111)
    (hg : regOf t = none) : s.accessRefusal k t = some .control := by
  rcases hk with hk | ⟨hk, hp⟩
  · simp [State.accessRefusal, hk, hl, hg]
  · simp [-Fin.getElem_fin, State.accessRefusal, hk, hl, hg, hp]

/-- A WRITE that passes steps 1 to 3 to a read-only register, step 4 (R179). -/
theorem accessRefusal_readOnly {s : State} {k : Port} {t : Transaction} {g : Reg} (hk : t.kind = .write)
    (hp : s.ports[k].permission = true) (hl : t.lanes = 0b1111) (hg : regOf t = some g) (hr : g.access = .readOnly) :
    s.accessRefusal k t = some .control := by
  simp [-Fin.getElem_fin, State.accessRefusal, hk, hl, hg, hp, hr]

/-! ### A write and its row (R18) -/

section Rows

variable {s : State} {k : Port} {g : Reg} {v : Word}

/-- A write of a register's command under the name of the command's row. -/
theorem exec_write_eq_command {n : Nat} {code : Word → BitVec n} {c : BitVec n} {effect : State → Port → Word → State}
    (h : s.writes k g v) (hc : code v = c) (he : (s.taken k).writeWindow k g v = effect (s.taken k) k v) :
    exec .write s = takeWrite s (· == g) (fun v => code v == c) effect := by
  rw [exec_write_window h, takeWrite_of (named := fun x => x == g) h (beq_self_eq_true g) (by simp [hc]), he]

/-- A write under the name of a row that is told by the whole transaction. -/
theorem exec_write_eq_takeRequest {named : Transaction → Bool} {effect : Port → Transaction → State → State}
    (h : s.writes k g v)
    (hn : ∀ t : Transaction, t.kind = .write → inWindow t.addr = true → regOf t = some g → t.wdata = v →
      named t = true ∧ effect k t (s.taken k) = (s.taken k).writeWindow k g v) :
    exec .write s = takeRequest s named fun s k t => s.checkedAccess k t (effect k t) := by
  rw [exec_write_window h]
  obtain ⟨t, hacc, hk, hv, hp, hr⟩ := h
  have ⟨ht, hw, _, hg⟩ := hacc
  obtain ⟨hnamed, heffect⟩ := hn t hk hw hg hv
  rw [takeRequest_of ht hnamed, checkedAccess_of hacc (.inr hk) fun _ => ⟨hp, hr⟩, heffect]

/-- A write to a parameter, or of a code that no command has, under the name CONTROL_WINDOW_WRITE (R185). -/
theorem exec_write_eq_controlWindowWrite (h : s.writes k g v) (hn : (g.isParameter || g.badCode v) = true)
    (he : (s.taken k).writeWindow k g v = (s.taken k).writeParameter k g v) :
    exec .write s = exec .controlWindowWrite s := by
  refine exec_write_eq_takeRequest (named := isParameterWrite)
    (effect := fun k t s => match regOf t with
      | none => s
      | some g => s.writeParameter k g t.wdata) h fun t hk hw hg hv => ⟨?_, ?_⟩
  · simp [isParameterWrite, hk, hw, hg, hv, hn]
  · simp only [hg, hv, he]

/-- A write to HUB_STATE under the name of its command's row (R181, R182). -/
theorem exec_write_hubState {c : Instr} (h : s.writes k .hubState v) (hc : windowRow .hubState v = some c) :
    exec .write s = exec c s := by
  have hbad : ∀ x : BitVec 2, x ≠ 1 → x ≠ 2 → (x == 0 || x == 3) = true := by decide
  obtain rfl := Option.some.inj hc
  split_ifs with h1 h2
  · exact exec_write_eq_command (code := hubCmd) (effect := fun s k _ => s.enterRun k) h h1 (if_pos h1)
  · exact exec_write_eq_command (code := hubCmd) (effect := fun s k _ => s.softReset k) h h2
      ((if_neg h1).trans (if_pos h2))
  · exact exec_write_eq_controlWindowWrite h (hbad (hubCmd v) h1 h2) ((if_neg h1).trans (if_neg h2))

/-- A write to PORT_CMD under the name of its command's row (R109, R110). -/
theorem exec_write_portCmd {c : Instr} (h : s.writes k .portCmd v) (hc : windowRow .portCmd v = some c) :
    exec .write s = exec c s := by
  have hbad : ∀ x : BitVec 2, x ≠ 1 → x ≠ 2 → (x == 0 || x == 3) = true := by decide
  obtain rfl := Option.some.inj hc
  split_ifs with h1 h2
  · exact exec_write_eq_command (code := portCmdCode) (effect := State.attachPort) h h1 (if_pos h1)
  · exact exec_write_eq_command (code := portCmdCode) (effect := State.detachPort) h h2 ((if_neg h1).trans (if_pos h2))
  · exact exec_write_eq_controlWindowWrite h (hbad (portCmdCode v) h1 h2) ((if_neg h1).trans (if_neg h2))

/-- A write to REGION_CMD under the name of its command's row (R131, R132, R161 to R163). -/
theorem exec_write_regionCmd {c : Instr} (h : s.writes k .regionCmd v) (hc : windowRow .regionCmd v = some c) :
    exec .write s = exec c s := by
  have hbad : ∀ x : BitVec 3, x ≠ 1 → x ≠ 2 → x ≠ 3 → x ≠ 4 → x ≠ 5 → (x == 0 || x == 6 || x == 7) = true := by decide
  obtain rfl := Option.some.inj hc
  have hw : (s.taken k).writeWindow k .regionCmd v = (s.taken k).writeRegionCmd k v := rfl
  split_ifs with h1 h2 h3 h4 h5
  · exact exec_write_eq_command (code := regionCmdCode) (effect := State.enableRegion) h h1 (if_pos h1)
  · exact exec_write_eq_command (code := regionCmdCode) (effect := State.disableRegion) h h2
      ((if_neg h1).trans (if_pos h2))
  · exact exec_write_eq_command (code := regionCmdCode) (effect := State.forceProbe) h h3
      ((if_neg h1).trans ((if_neg h2).trans (if_pos h3)))
  · exact exec_write_eq_command (code := regionCmdCode) (effect := State.forceOnline) h h4
      ((if_neg h1).trans ((if_neg h2).trans ((if_neg h3).trans (if_pos h4))))
  · exact exec_write_eq_command (code := regionCmdCode) (effect := State.forceOffline) h h5
      ((if_neg h1).trans ((if_neg h2).trans ((if_neg h3).trans ((if_neg h4).trans (if_pos h5)))))
  · exact exec_write_eq_controlWindowWrite h (hbad (regionCmdCode v) h1 h2 h3 h4 h5)
      ((if_neg h1).trans ((if_neg h2).trans ((if_neg h3).trans ((if_neg h4).trans (if_neg h5)))))

/-- A write to SWEEP_CMD under the name of its command's row (R167, R176). -/
theorem exec_write_sweepCmd {c : Instr} (h : s.writes k .sweepCmd v) (hc : windowRow .sweepCmd v = some c) :
    exec .write s = exec c s := by
  have hbad : ∀ x : BitVec 3, x ≠ 1 → x ≠ 2 → x ≠ 3 → x ≠ 4 → (x == 0 || x == 5 || x == 6 || x == 7) = true := by decide
  obtain rfl := Option.some.inj hc
  split_ifs with h1 h2 h3 h4
  · exact exec_write_eq_command (code := sweepCmdCode) (effect := fun s k v => s.startSweep .clean k v) h h1 (if_pos h1)
  · exact exec_write_eq_command (code := sweepCmdCode) (effect := fun s k v => s.startSweep .flush k v) h h2
      ((if_neg h1).trans (if_pos h2))
  · exact exec_write_eq_command (code := sweepCmdCode) (effect := fun s k v => s.startSweep .discard k v) h h3
      ((if_neg h1).trans ((if_neg h2).trans (if_pos h3)))
  · exact exec_write_eq_command (code := sweepCmdCode) (effect := fun s k _ => s.abortSweep k) h h4
      ((if_neg h1).trans ((if_neg h2).trans ((if_neg h3).trans (if_pos h4))))
  · exact exec_write_eq_controlWindowWrite h (hbad (sweepCmdCode v) h1 h2 h3 h4)
      ((if_neg h1).trans ((if_neg h2).trans ((if_neg h3).trans (if_neg h4))))

/-- A write that passes the checks has the effect of its row under either name (R18, R179). -/
theorem exec_write_eq_row {c : Instr} (h : s.writes k g v) (hc : windowRow g v = some c) :
    exec .write s = exec c s := by
  cases g with
  | hubState => exact exec_write_hubState h hc
  | portCmd => exact exec_write_portCmd h hc
  | regionCmd => exact exec_write_regionCmd h hc
  | sweepCmd => exact exec_write_sweepCmd h hc
  | resTime | noticeTime | urgency =>
    obtain rfl := Option.some.inj hc
    exact exec_write_eq_controlWindowWrite h rfl rfl
  | portCfg j =>
    obtain rfl := Option.some.inj hc
    refine exec_write_eq_takeRequest (named := writesReg (fun g => g.cfgPort?.isSome) fun _ => true)
      (effect := fun k t s => match (regOf t).bind Reg.cfgPort? with
        | none => s
        | some j => s.writePortCfg j k t.wdata) h fun t hk hw hg hv => ⟨?_, ?_⟩
    · simp [writesReg, hk, hw, hg, Reg.cfgPort?]
    · simp only [hg, hv, Option.bind_some, Reg.cfgPort?]
      rfl
  | regionWord n w =>
    obtain rfl := Option.some.inj hc
    refine exec_write_eq_takeRequest (named := writesReg (fun g => g.regionWord?.isSome) fun _ => true)
      (effect := fun k t s => match (regOf t).bind Reg.regionWord? with
        | none => s
        | some (n, w) => s.writeRegion n w k t.wdata) h fun t hk hw hg hv => ⟨?_, ?_⟩
    · simp [writesReg, hk, hw, hg, Reg.regionWord?]
    · simp only [hg, hv, Option.bind_some, Reg.regionWord?]
      rfl
  | lineQuery0 =>
    obtain rfl := Option.some.inj hc
    exact (exec_write_window h).trans (takeWrite_of (effect := State.queryLine) h rfl rfl).symm
  | eventPop =>
    obtain rfl := Option.some.inj hc
    exact (exec_write_window h).trans (takeWrite_of (effect := fun s k _ => s.popEvent k) h rfl rfl).symm
  | sweepStatus0 | sweepStatus1 | lineQuery1 | eventHead0 | eventHead1 | eventStatus => cases hc

end Rows

/-- Settles O49: the checks in their order, the map of the window, and each write under its row's name. -/
theorem windowChecksAnswerInOrder : Obligations.WindowChecksAnswerInOrder := by
  unfold Obligations.WindowChecksAnswerInOrder
  refine ⟨fun s k g v c => exec_write_eq_row, fun t g => regOf_eq_some,
    fun g => ⟨access_readOnly g, access_writeOnly g⟩, fun s k t ht hw => ⟨?_, ?_, ?_, ?_⟩⟩
  · exact fun h => exec_window_refused ht hw (accessRefusal_shape h)
  · intro hk hl hp
    rw [show Instr.write = t.kind.command by rw [hk]; rfl]
    exact exec_window_refused ht hw (accessRefusal_denied hk hl hp)
  · exact fun hk hl hg => exec_window_refused ht hw (accessRefusal_unassigned hk hl hg)
  · intro g hk hp hl hg hr
    rw [show Instr.write = t.kind.command by rw [hk]; rfl]
    exact exec_window_refused ht hw (accessRefusal_readOnly hk hp hl hg hr)

end Sys2Proof.Machine

/-! ## What the directory can do with the blocks that hold work

The ports, the fill slots, the drain buffer, the region table and the Device Port hold the work in progress. The lemmas
here say once, for each operation of the directory, what it can do to them and to the parameters; the invariants over
these blocks are derived from that. -/

namespace Sys2Proof.Machine

/-- The ports and the parameters are in `u` as they are in `s`. -/
structure State.SamePorts (s u : State) : Prop where
  ports : u.ports = s.ports
  urgency : u.urgency = s.urgency
  resTime : u.resTime = s.resTime
  noticeTime : u.noticeTime = s.noticeTime

/-- The blocks that hold work, and the parameters, are in `u` as they are in `s`. -/
structure State.SameWork (s u : State) : Prop extends s.SamePorts u where
  slots : u.slots = s.slots
  drains : u.drains = s.drains
  regions : u.regions = s.regions
  dev : u.dev = s.dev

theorem State.SameWork.refl (s : State) : s.SameWork s := ⟨⟨rfl, rfl, rfl, rfl⟩, rfl, rfl, rfl, rfl⟩

theorem State.SameWork.trans {s u v : State} (h : s.SameWork u) (g : u.SameWork v) : s.SameWork v where
  ports := g.ports.trans h.ports
  slots := g.slots.trans h.slots
  drains := g.drains.trans h.drains
  regions := g.regions.trans h.regions
  dev := g.dev.trans h.dev
  urgency := g.urgency.trans h.urgency
  resTime := g.resTime.trans h.resTime
  noticeTime := g.noticeTime.trans h.noticeTime

/-! The operations on the other blocks leave these as they are. -/

section Frame

variable {s u : State} (h : s.SameWork u)
include h

theorem State.SameWork.withDir (dir : Vector DirSet 128) : s.SameWork { u with dir := dir } :=
  h.trans ⟨⟨rfl, rfl, rfl, rfl⟩, rfl, rfl, rfl, rfl⟩

theorem State.SameWork.withNotices (notices : Vector NoticeQueue 4) : s.SameWork { u with notices := notices } :=
  h.trans ⟨⟨rfl, rfl, rfl, rfl⟩, rfl, rfl, rfl, rfl⟩

theorem State.SameWork.withRes (res : Vector (Option Reservation) 6) : s.SameWork { u with res := res } :=
  h.trans ⟨⟨rfl, rfl, rfl, rfl⟩, rfl, rfl, rfl, rfl⟩

theorem State.SameWork.withFifo (fifo : ForeignFifo) : s.SameWork { u with fifo := fifo } :=
  h.trans ⟨⟨rfl, rfl, rfl, rfl⟩, rfl, rfl, rfl, rfl⟩

theorem State.SameWork.withSweep (sweep : Sweep) : s.SameWork { u with sweep := sweep } :=
  h.trans ⟨⟨rfl, rfl, rfl, rfl⟩, rfl, rfl, rfl, rfl⟩

theorem State.SameWork.withEvents (events : EventQueue) : s.SameWork { u with events := events } :=
  h.trans ⟨⟨rfl, rfl, rfl, rfl⟩, rfl, rfl, rfl, rfl⟩

theorem State.SameWork.sendNotices (kind : NoticeKind) (l : LineAddr) (S : PortSet) :
    s.SameWork (u.sendNotices kind l S) := h.withNotices _

theorem State.SameWork.emptyNotices (k : Port) : s.SameWork (u.emptyNotices k) :=
  h.trans ⟨⟨rfl, rfl, rfl, rfl⟩, rfl, rfl, rfl, rfl⟩

theorem State.SameWork.setEntry (si : SetIdx) (w : WayIdx) (e : Entry) : s.SameWork (u.setEntry si w e) := h.withDir _

theorem State.SameWork.touch (si : SetIdx) (w : WayIdx) : s.SameWork (u.touch si w) := h.withDir _

theorem State.SameWork.sink (si : SetIdx) (w : WayIdx) : s.SameWork (u.sink si w) := h.withDir _

theorem State.SameWork.dropSharer (k : Port) : s.SameWork (u.dropSharer k) := h.withDir _

theorem State.SameWork.invalidate (si : SetIdx) (w : WayIdx) : s.SameWork (u.invalidate si w) :=
  ((h.setEntry si w .invalid).sink si w).withSweep _

theorem State.SameWork.setRes (i : ResId) (r : Reservation) : s.SameWork (u.setRes i r) := h.withRes _

theorem State.SameWork.freeLine (l : LineAddr) : s.SameWork (u.freeLine l) := h.withRes _

theorem State.SameWork.freeOwned (k : Port) : s.SameWork (u.freeOwned k) := h.withRes _

theorem State.SameWork.record (e : Event) : s.SameWork (u.record e) := h.withEvents _

theorem State.SameWork.popForeign : s.SameWork u.popForeign := h.withFifo _

theorem State.SameWork.writeLine (q : Request) (w : WayIdx) (x : Held) : s.SameWork (u.writeLine q w x) :=
  ((h.sendNotices _ _ _).setEntry _ _ _).touch _ _

end Frame

/-- Port `k`'s transaction is answered, or becomes a port operation; where it does neither the blocks stay as they
are. -/
inductive State.Settles (s : State) (k : Port) : State → Prop
  | left {u : State} (same : s.SameWork u) : s.Settles k u
  | answered {u : State} (same : s.SameWork u) (r : Response) : s.Settles k (u.respond k r)
  | portOp {u : State} (same : s.SameWork u) (q : Request) (wt : Bool) (port : q.port = k) :
    s.Settles k (u.makePortOp q wt)

/-- The blocks stay as they are, or one drain entry is made while the buffer has room (R70). -/
inductive State.MakesDrain (s : State) : State → Prop
  | none {u : State} (same : s.SameWork u) : s.MakesDrain u
  | made {u : State} (room : s.drains.length < 2) (kind : DrainKind) (l : LineAddr) (h : Held)
    (same : (s.addDrain kind l h).SameWork u) : s.MakesDrain u

theorem State.MakesDrain.trans_same {s u v : State} (h : s.MakesDrain u) (g : u.SameWork v) : s.MakesDrain v := by
  cases h with
  | none same => exact .none (same.trans g)
  | made room kind l h same => exact .made room kind l h (same.trans g)

/-- What the directory can make of a request: it is settled, answered with a line allocated to it, given a fill, or
joined to one (R27, R28, R47, R48). -/
inductive State.Directs (s : State) (q : Request) : State → Prop
  | settled {t : State} (settles : s.Settles q.port t) : s.Directs q t
  | installed {u : State} (evicts : s.MakesDrain u) (r : Response) : s.Directs q (u.respond q.port r)
  | filling {u : State} (evicts : s.MakesDrain u) (w : WayIdx) (i : SlotId) (free : s.slots[i] = none) :
    s.Directs q (((u.setSlot i (some (q.fill w))).enqueue (fillOp i q.region q.txn.line q.txn.word)).place q.port
      (.requester i))
  | joined (i : SlotId) (f : Fill) (slot : s.slots[i] = some f) :
    s.Directs q ((s.setSlot i (some (f.join q))).place q.port (f.joinPlacement q i))

/-! ### Hit service (R30) -/

/-- A performed write answers DONE or makes a port operation (R33, R35). -/
theorem finishWrite_settles {s u : State} (h : s.SameWork u) (q : Request) : s.Settles q.port (u.finishWrite q) := by
  unfold State.finishWrite
  split
  · exact .portOp h q true rfl
  · exact .answered h _

/-- A READ hit is answered. -/
theorem serveRead_settles {s u : State} (h : s.SameWork u) (q : Request) (w : WayIdx) (x : Held) :
    s.Settles q.port (u.serveRead q w x) :=
  .answered (h.touch _ _) _

theorem serveWrite_settles (s : State) (q : Request) (w : WayIdx) (h : Held) :
    s.Settles q.port (s.serveWrite q w h) := by
  unfold State.serveWrite
  split
  · exact .answered (.refl s) _
  · split
    · exact .answered (.refl s) _
    · exact finishWrite_settles (.writeLine (.refl s) q w h) q

theorem serveReserve_settles (s : State) (q : Request) (w : WayIdx) (h : Held) :
    s.Settles q.port (s.serveReserve q w h) := by
  unfold State.serveReserve
  split
  · exact .answered (.refl s) _
  · split
    · exact serveRead_settles (.setRes (.refl s) _ _) q w h
    · split
      · exact .answered (.refl s) _
      · split
        · exact .answered (.refl s) _
        · exact serveRead_settles (.setRes (.refl s) _ _) q w h

theorem serveReleaseWrite_settles (s : State) (q : Request) (w : WayIdx) (h : Held) :
    s.Settles q.port (s.serveReleaseWrite q w h) := by
  unfold State.serveReleaseWrite
  split
  · split
    · exact .answered (.refl s) _
    · exact finishWrite_settles (.freeLine (.writeLine (.refl s) q w h) _) q
  · exact .answered (.refl s) _

theorem serveRelease_settles (s : State) (q : Request) (w : WayIdx) : s.Settles q.port (s.serveRelease q w) := by
  unfold State.serveRelease
  split
  · exact .answered (.touch (.freeLine (.refl s) _) _ _) _
  · exact .answered (.refl s) _

/-- Hit service settles its transaction, whatever its kind. -/
theorem serve_settles (s : State) (q : Request) (w : WayIdx) : s.Settles q.port (s.serve q w) := by
  unfold State.serve
  split
  · exact .left (.refl s)
  · next h _ =>
    unfold State.serveHeld
    split
    · exact serveRead_settles (.refl s) q w h
    · exact serveWrite_settles s q w h
    · exact .answered (.touch (.setEntry (.refl s) _ _ _) _ _) _
    · exact serveWrite_settles s q w h
    · exact serveReserve_settles s q w h
    · exact serveReleaseWrite_settles s q w h
    · exact serveRelease_settles s q w

/-! ### Victim choice and allocation (R44 to R48) -/

/-- An allocation whose checks have passed makes a drain entry at most, and that with room (R45, R46). -/
theorem allocate_makesDrain {s : State} {si : SetIdx} {w : WayIdx} (e : Entry) (h : s.victimRefusal si w = none) :
    s.MakesDrain (s.allocate si w e) := by
  have hevict : s.MakesDrain (s.evict si w) := by
    unfold State.evict
    split
    · exact .none (.refl s)
    · exact .none (.refl s)
    · exact .none (.sendNotices (.refl s) _ _ _)
    · next x hx =>
      have hroom : s.drains.length < 2 := by
        by_contra hfull
        simp [State.victimRefusal, hx, Entry.held?, Entry.isDirty, State.drainRoom, hfull] at h
      exact .made hroom .evict (lineAt x.tag si) x (.sendNotices (.refl _) _ _ _)
  exact hevict.trans_same (.withSweep (.touch (.setEntry (.refl _) _ _ _) _ _) _)

/-- A chosen victim is refused, or allocated with its checks passed (R44, R45). -/
theorem chooseVictim_cases (s : State) (q : Request) (alloc : WayIdx → State) :
    (∃ c, s.chooseVictim q alloc = s.respond q.port (.retry c)) ∨
      ∃ w, s.victimRefusal (setOf q.txn.line) w = none ∧ s.chooseVictim q alloc = alloc w := by
  unfold State.chooseVictim
  split
  · exact .inl ⟨_, rfl⟩
  · split
    · exact .inl ⟨_, rfl⟩
    · next w _ _ hr => exact .inr ⟨w, hr, rfl⟩

theorem missAllocate_directs (s : State) (q : Request) : s.Directs q (s.missAllocate q) := by
  unfold State.missAllocate
  split
  · obtain ⟨c, hc⟩ | ⟨w, hr, hw⟩ := chooseVictim_cases s q fun w => s.installWrite q w
    · rw [hc]
      exact .settled (.answered (.refl s) _)
    · rw [hw]
      exact .installed (allocate_makesDrain _ hr) _
  · split
    · exact .settled (.answered (.refl s) _)
    · next i hi =>
      obtain ⟨c, hc⟩ | ⟨w, hr, hw⟩ := chooseVictim_cases s q fun w => s.startFill q w i
      · rw [hc]
        exact .settled (.answered (.refl s) _)
      · rw [hw]
        exact .filling (allocate_makesDrain _ hr) w i (freeSlot_free hi)

theorem missPath_directs (s : State) (q : Request) : s.Directs q (s.missPath q) := by
  unfold State.missPath
  split
  · exact .settled (.answered (.refl s) _)
  · split
    · exact .settled (.answered (.refl s) _)
    · split
      · exact .settled (.portOp (.refl s) q false rfl)
      · split
        · exact .settled (.answered (.refl s) _)
        · exact missAllocate_directs s q

theorem miss_directs (s : State) (q : Request) : s.Directs q (s.miss q) := by
  cases hk : q.txn.kind with
  | releaseWrite | release =>
    rw [show s.miss q = s.respond q.port .late by simp [State.miss, hk]]
    exact .settled (.answered (.refl s) _)
  | _ =>
    rw [show s.miss q = s.missPath q by simp [State.miss, hk]]
    exact missPath_directs s q

/-! ### Lookup and the intake (R17, R27) -/

/-- What follows the lookup, by the state of the way it finds (R27). -/
theorem directory_directs (s : State) (q : Request) : s.Directs q (s.directory q) := by
  unfold State.directory
  split
  · exact miss_directs s q
  · split
    · unfold State.joinFill
      split
      · exact .settled (.left (.refl s))
      · next f hf => exact .joined _ f hf
    · exact .settled (.left (.refl s))
    · exact .settled (serve_settles s q _)
    · exact .settled (serve_settles s q _)

/-- A granted transaction is an access to the window, or is directed by its region (R17 to R21). -/
theorem intake_cases (s : State) (k : Port) (t : Transaction) :
    s.intake k t = s.controlAccess k t ∨ ∃ r, s.Directs { port := k, txn := t, region := r } (s.intake k t) := by
  have hanswer (r : Response) : s.Directs { port := k, txn := t, region := 0 } (s.respond k r) :=
    .settled (.answered (.refl s) r)
  unfold State.intake
  split
  · exact .inr ⟨0, hanswer _⟩
  · split
    · exact .inl rfl
    · split
      · exact .inr ⟨0, hanswer _⟩
      · split
        · exact .inr ⟨0, hanswer _⟩
        · next r _ =>
          split
          · exact .inr ⟨0, hanswer _⟩
          · exact .inr ⟨r, directory_directs s _⟩

/-! ### Sweeps (R168 to R175) -/

theorem State.SameWork.endSweep {s u : State} (h : s.SameWork u) (aborted : Bool) : s.SameWork (u.endSweep aborted) :=
  (h.withSweep _).record _

theorem State.SameWork.advance {s u : State} (h : s.SameWork u) : s.SameWork u.advance := by
  unfold State.advance
  split
  · exact h.withSweep _
  · exact h.endSweep false

theorem State.SameWork.skipWay {s u : State} (h : s.SameWork u) : s.SameWork u.skipWay :=
  (h.withSweep _).advance

theorem State.SameWork.sweepOut {s u : State} (h : s.SameWork u) (x : Held) (kind : NoticeKind) :
    s.SameWork (u.sweepOut x kind) :=
  (((h.sendNotices _ _ _).invalidate _ _).withSweep _).advance

/-- The buffer's room, in the terms of its length. -/
theorem drainRoom_iff {s : State} : s.drainRoom = true ↔ s.drains.length < 2 := by
  simp [State.drainRoom]

theorem cleanDirty_makesDrain (s : State) (h : Held) : s.MakesDrain (s.cleanDirty h) := by
  unfold State.cleanDirty
  split
  · exact .none (.skipWay (.refl s))
  · split
    · next hroom =>
      exact .made (drainRoom_iff.mp hroom) .copy (s.sweepLine h) h
        (.advance (.withSweep (.setEntry (.refl _) _ _ _) _))
    · exact .none (.withSweep (.refl s) _)

theorem cleanStep_makesDrain (s : State) : s.MakesDrain s.cleanStep := by
  unfold State.cleanStep
  split
  · exact .none (.advance (.refl s))
  · exact .none (.advance (.refl s))
  · split
    · exact .none (.skipWay (.refl s))
    · exact .none (.advance (.refl s))
  · split
    · exact cleanDirty_makesDrain s _
    · exact .none (.advance (.refl s))

theorem flushClean_makesDrain (s : State) (h : Held) : s.MakesDrain (s.flushClean h) := by
  unfold State.flushClean
  split
  · exact .none (.withSweep (.refl s) _)
  · exact .none (.sweepOut (.refl s) h .revoke)

theorem flushDirty_makesDrain (s : State) (h : Held) : s.MakesDrain (s.flushDirty h) := by
  unfold State.flushDirty
  split
  · exact .none (.skipWay (.refl s))
  · split
    · exact .none (.withSweep (.refl s) _)
    · next hfull =>
      have hroom : s.drainRoom = true := by simpa using hfull
      split
      · exact .none (.withSweep (.refl s) _)
      · exact .made (drainRoom_iff.mp hroom) .evict (s.sweepLine h) h
          (.sweepOut (.withSweep (.refl _) _) h .revoke)

theorem flushStep_makesDrain (s : State) : s.MakesDrain s.flushStep := by
  unfold State.flushStep
  split
  · exact .none (.advance (.refl s))
  · split
    · exact .none (.skipWay (.refl s))
    · exact .none (.advance (.refl s))
  · split
    · split
      · exact .none (.skipWay (.refl s))
      · exact flushClean_makesDrain s _
    · exact .none (.advance (.refl s))
  · split
    · split
      · exact .none (.skipWay (.refl s))
      · exact flushDirty_makesDrain s _
    · exact .none (.advance (.refl s))

theorem discardHeld_sameWork (s : State) (h : Held) : s.SameWork (s.discardHeld h) := by
  unfold State.discardHeld
  split
  · exact .skipWay (.refl s)
  · split
    · exact .withSweep (.refl s) _
    · exact .sweepOut (.refl s) h .invalidate

theorem discardStep_sameWork (s : State) : s.SameWork s.discardStep := by
  unfold State.discardStep
  split
  · exact .advance (.refl s)
  · split
    · exact .skipWay (.refl s)
    · exact .advance (.refl s)
  · split
    · exact discardHeld_sameWork s _
    · exact .advance (.refl s)
  · split
    · exact discardHeld_sameWork s _
    · exact .advance (.refl s)

/-! ### Foreign writes (R117 to R124) -/

theorem State.SameWork.recordConflict {s u : State} (h : s.SameWork u) (l : LineAddr) (dirty : Option RegionId) :
    s.SameWork (u.recordConflict l dirty) := by
  unfold State.recordConflict
  split
  · exact h
  · exact h.record _

theorem evaluateHeld_sameWork (s : State) (l : LineAddr) (w : WayIdx) (h : Held) :
    s.SameWork (s.evaluateHeld l w h) := by
  unfold State.evaluateHeld
  split
  · exact ⟨⟨rfl, rfl, rfl, rfl⟩, rfl, rfl, rfl, rfl⟩
  · exact .popForeign (.freeLine (.invalidate (.sendNotices (.recordConflict (.refl s) _ _) _ _ _) _ _) _)

/-- An evaluation changes the blocks that hold work by a taint at most (R122). -/
theorem evaluate_sameWork (s : State) : s.SameWork s.evaluate ∨ ∃ i, (s.taint i).SameWork s.evaluate := by
  have hpop (u : State) (l : LineAddr) : u.SameWork (u.recordConflict l none).popForeign :=
    .popForeign (.recordConflict (.refl u) l none)
  unfold State.evaluate
  split
  · exact .inl (.refl s)
  · unfold State.evaluateLine
    split
    · exact .inl (hpop s _)
    · split
      · exact .inl (evaluateHeld_sameWork s _ _ _)
      · exact .inl (evaluateHeld_sameWork s _ _ _)
      · next i _ => exact .inr ⟨i, hpop (s.taint i) _⟩
      · exact .inl (hpop s _)

end Sys2Proof.Machine

/-! ## What a step can do

One inversion lemma for the step: the forms that the next state can take, in terms of the blocks that hold work. Each
invariant over these blocks is then a case analysis over the forms. -/

namespace Sys2Proof.Machine

/-! ### Accesses to the control window -/

/-- What port `k`'s access to the control window can do. -/
inductive State.WindowDoes (s : State) (k : Port) : State → Prop
  | left : s.WindowDoes k s
  | answered {u : State} (same : s.SameWork u) (r : Response) : s.WindowDoes k (u.respond k r)
  | softReset : s.WindowDoes k (s.softReset k)
  | resTime (v : Word) (range : 1 ≤ v.toNat ∧ v.toNat ≤ 255) :
    s.WindowDoes k (({ s with resTime := v.setWidth 8 } : State).ok k)
  | noticeTime (v : Word) (range : 1 ≤ v.toNat ∧ v.toNat ≤ 255) :
    s.WindowDoes k (({ s with noticeTime := v.setWidth 8 } : State).ok k)
  | urgency (v : Word) (range : 1 ≤ v.toNat ∧ v.toNat ≤ 15) :
    s.WindowDoes k (({ s with urgency := v.setWidth 4 } : State).ok k)
  | portCfg (j : Port) (coherent permission eventEnable : Bool)
    (permitted : permission = true ∨ s.othersPermitted j = true) :
    s.WindowDoes k (((s.writeMode j coherent).writePermission j permission eventEnable).ok k)
  | attached (j : Port) (m : Mode) : s.WindowDoes k ((s.setMode j m).ok k)
  | detached (j : Port) : s.WindowDoes k ((s.detach j).ok k)
  | configured (r : RegionId) (c : RegionConfig) (disabled : s.regions[r].health = .disabled) :
    s.WindowDoes k ((s.setRegion r { s.regions[r] with cfg := c }).ok k)
  | enabled (r : RegionId) (disabled : s.regions[r].health = .disabled) :
    s.WindowDoes k
      ((s.setRegion r { s.regions[r] with health := .online, count := 0, probeTimer := none }).ok k)
  | disabled (r : RegionId) (unused : s.belongs r = false) :
    s.WindowDoes k
      ((s.setRegion r { s.regions[r] with health := .disabled, count := 0, probeTimer := none }).ok k)
  | probed (r : RegionId) (offline : s.regions[r].health = .offline) (n : Nat)
    (timer : s.regions[r].probeTimer = some n) : s.WindowDoes k ((s.queueProbe r).ok k)
  | forcedOnline (r : RegionId) (e : Event) (offline : s.regions[r].health = .offline) :
    s.WindowDoes k (((s.dropProbe r).comeOnline r e).ok k)
  | forcedOffline (r : RegionId) (e : Event) (online : s.regions[r].health = .online) :
    s.WindowDoes k ((s.goOffline r id e).ok k)

section Window

variable (s : State) (k : Port) (v : Word)

theorem refuse_does : s.WindowDoes k (s.refuse k) := .answered (.refl s) _

theorem ok_does {u : State} (h : s.SameWork u) : s.WindowDoes k (u.ok k) := .answered h _

/-- A region that is not enabled is DISABLED. -/
theorem Region.disabled_of {g : Region} (h : g.enabled = false) : g.health = .disabled := by
  simpa [Region.enabled] using h

theorem writeHubState_does : s.WindowDoes k (s.writeHubState k v) := by
  unfold State.writeHubState
  split
  · exact ok_does s k ⟨⟨rfl, rfl, rfl, rfl⟩, rfl, rfl, rfl, rfl⟩
  · split
    · exact .softReset
    · exact refuse_does s k

theorem writePortCfg_does (j : Port) : s.WindowDoes k (s.writePortCfg j k v) := by
  unfold State.writePortCfg
  split
  · exact refuse_does s k
  · next h =>
    refine .portCfg j _ _ _ ?_
    rw [Bool.and_eq_true, not_and_or, Bool.not_eq_true', Bool.not_eq_false, Bool.not_eq_true', Bool.not_eq_false] at h
    exact h

theorem attachPort_does : s.WindowDoes k (s.attachPort k v) := by
  unfold State.attachPort
  split
  · exact refuse_does s k
  · exact ok_does s k (.refl s)
  · exact .attached _ _

theorem detachPort_does : s.WindowDoes k (s.detachPort k v) := by
  unfold State.detachPort
  split
  · exact refuse_does s k
  · exact .detached _
  · exact ok_does s k (.refl s)

theorem writePortCmd_does : s.WindowDoes k (s.writePortCmd k v) := by
  unfold State.writePortCmd
  split
  · exact attachPort_does s k v
  · split
    · exact detachPort_does s k v
    · exact refuse_does s k

theorem writeResTime_does : s.WindowDoes k (s.writeResTime k v) := by
  unfold State.writeResTime
  split
  · next h => exact .resTime v h
  · exact refuse_does s k

theorem writeNoticeTime_does : s.WindowDoes k (s.writeNoticeTime k v) := by
  unfold State.writeNoticeTime
  split
  · next h => exact .noticeTime v h
  · exact refuse_does s k

theorem writeUrgency_does : s.WindowDoes k (s.writeUrgency k v) := by
  unfold State.writeUrgency
  split
  · next h => exact .urgency v h
  · exact refuse_does s k

theorem writeRegion_does (n : RegionId) (w : Fin 4) : s.WindowDoes k (s.writeRegion n w k v) := by
  unfold State.writeRegion
  split
  · exact refuse_does s k
  · next h =>
    split
    · exact refuse_does s k
    · exact .configured n _ (Region.disabled_of (by simpa using h))

theorem enableRegion_does : s.WindowDoes k (s.enableRegion k v) := by
  unfold State.enableRegion
  split
  · exact ok_does s k (.refl s)
  · next h =>
    split
    · exact refuse_does s k
    · exact .enabled _ (Region.disabled_of (by simpa using h))

theorem disableRegion_does : s.WindowDoes k (s.disableRegion k v) := by
  unfold State.disableRegion
  split
  · exact ok_does s k (.refl s)
  · split
    · exact refuse_does s k
    · next h => exact .disabled _ (by simpa using h)

theorem forceProbe_does : s.WindowDoes k (s.forceProbe k v) := by
  unfold State.forceProbe
  split
  · exact refuse_does s k
  · exact ok_does s k (.refl s)
  · next hh =>
    split
    · exact ok_does s k (.refl s)
    · next n hn => exact .probed _ hh n hn

theorem forceOnline_does : s.WindowDoes k (s.forceOnline k v) := by
  unfold State.forceOnline
  split
  · exact refuse_does s k
  · exact ok_does s k (.refl s)
  · next hh => exact .forcedOnline _ _ hh

theorem forceOffline_does : s.WindowDoes k (s.forceOffline k v) := by
  unfold State.forceOffline
  split
  · exact refuse_does s k
  · exact ok_does s k (.refl s)
  · next hh => exact .forcedOffline _ _ hh

theorem writeRegionCmd_does : s.WindowDoes k (s.writeRegionCmd k v) := by
  unfold State.writeRegionCmd
  split
  · exact enableRegion_does s k v
  · split
    · exact disableRegion_does s k v
    · split
      · exact forceProbe_does s k v
      · split
        · exact forceOnline_does s k v
        · split
          · exact forceOffline_does s k v
          · exact refuse_does s k

theorem startSweep_does (c : SweepCommand) : s.WindowDoes k (s.startSweep c k v) := by
  unfold State.startSweep
  split
  · exact refuse_does s k
  · split
    · exact refuse_does s k
    · exact ok_does s k (.withSweep (.refl s) _)

theorem abortSweep_does : s.WindowDoes k (s.abortSweep k) := by
  unfold State.abortSweep
  split
  · exact ok_does s k (.endSweep (.refl s) true)
  · exact ok_does s k (.refl s)

theorem writeSweepCmd_does : s.WindowDoes k (s.writeSweepCmd k v) := by
  unfold State.writeSweepCmd
  split
  · exact startSweep_does s k v .clean
  · split
    · exact startSweep_does s k v .flush
    · split
      · exact startSweep_does s k v .discard
      · split
        · exact abortSweep_does s k
        · exact refuse_does s k

theorem queryLine_does : s.WindowDoes k (s.queryLine k v) := ok_does s k ⟨⟨rfl, rfl, rfl, rfl⟩, rfl, rfl, rfl, rfl⟩

theorem popEvent_does : s.WindowDoes k (s.popEvent k) := ok_does s k ⟨⟨rfl, rfl, rfl, rfl⟩, rfl, rfl, rfl, rfl⟩

theorem noteRead_sameWork (g : Reg) : s.SameWork (s.noteRead k g) := by
  cases g <;> exact ⟨⟨rfl, rfl, rfl, rfl⟩, rfl, rfl, rfl, rfl⟩

theorem readWindow_does (g : Reg) : s.WindowDoes k (s.readWindow k g) := .answered (noteRead_sameWork s k g) _

theorem writeWindow_does (g : Reg) : s.WindowDoes k (s.writeWindow k g v) := by
  cases g with
  | hubState => exact writeHubState_does s k v
  | portCfg j => exact writePortCfg_does s k v j
  | portCmd => exact writePortCmd_does s k v
  | resTime => exact writeResTime_does s k v
  | noticeTime => exact writeNoticeTime_does s k v
  | urgency => exact writeUrgency_does s k v
  | regionCmd => exact writeRegionCmd_does s k v
  | sweepCmd => exact writeSweepCmd_does s k v
  | lineQuery0 => exact queryLine_does s k v
  | eventPop => exact popEvent_does s k
  | regionWord n w => exact writeRegion_does s k v n w
  | sweepStatus0 | sweepStatus1 | lineQuery1 | eventHead0 | eventHead1 | eventStatus => exact refuse_does s k

theorem writeParameter_does (g : Reg) : s.WindowDoes k (s.writeParameter k g v) := by
  cases g with
  | resTime => exact writeResTime_does s k v
  | noticeTime => exact writeNoticeTime_does s k v
  | urgency => exact writeUrgency_does s k v
  | _ => exact refuse_does s k

/-- The checks of R179 answer an access or let it have its effect. -/
theorem checkedAccess_does (t : Transaction) {effect : State → State} (h : s.WindowDoes k (effect s)) :
    s.WindowDoes k (s.checkedAccess k t effect) := by
  unfold State.checkedAccess
  split
  · exact .answered (.refl s) _
  · exact h

theorem controlAccess_does (t : Transaction) : s.WindowDoes k (s.controlAccess k t) := by
  refine checkedAccess_does s k t ?_
  split
  · exact .left
  · split
    · exact writeWindow_does s k t.wdata _
    · exact readWindow_does s k _

end Window

/-! ### Every step -/

/-- What a step can do. The state `u` that a form starts from differs from `s` in other blocks than those that hold
work. -/
inductive State.Does (s : State) : State → Prop
  | same {u : State} (same : s.SameWork u) : s.Does u
  | accepted {u : State} (k : Port) (t : Transaction) (idle : s.ports[k].flight = none)
    (same : (s.place k (.atPort t)).SameWork u) : s.Does u
  | lineLevel {u : State} (same : s.SameWork u) (k : Port) (level : Bool) : s.Does (u.setResetLine k level)
  | portReset {u : State} (same : s.SameWork u) (k : Port) : s.Does (u.portReset k)
  | powerOn (pin : Bool) : s.Does (s.atPowerOn pin)
  | elapsed {u v : State} (same : s.SameWork u) (d : Nat) (after : (u.elapse d).SameWork v) : s.Does v
  | acked {u : State} (same : s.SameWork u) (data : Word) : s.Does (u.acked data)
  | errored {u : State} (same : s.SameWork u) : s.Does u.errored
  | timedOut {u : State} (same : s.SameWork u) (d : Nat) : s.Does (u.elapse d).timedOut
  | probeQueued {u : State} (same : s.SameWork u) (d : Nat) (r : RegionId) (n : Nat)
    (timer : s.regions[r].probeTimer = some n) : s.Does ((u.elapse d).queueProbe r)
  | noticeTimedOut {u v : State} (same : s.SameWork u) (d : Nat) (k : Port)
    (after : ((u.elapse d).detach k).SameWork v) : s.Does v
  | tainted {u v : State} (same : s.SameWork u) (i : SlotId) (after : (u.taint i).SameWork v) : s.Does v
  | swept {u v : State} (same : s.SameWork u) (drain : u.MakesDrain v) : s.Does v
  | directed {u v : State} (same : s.SameWork u) (k : Port) (t : Transaction)
    (waiting : s.ports[k].flight = some (.atPort t)) (q : Request) (port : q.port = k) (directs : u.Directs q v) :
    s.Does v
  | window {u v : State} (same : s.SameWork u) (k : Port) (t : Transaction)
    (waiting : s.ports[k].flight = some (.atPort t)) (does : u.WindowDoes k v) : s.Does v

section Steps

variable {s t : State}

/-- A happening that can only do what a step can. -/
theorem happen_does {p : Bool} {f : State → State} (h : happen s p f = .next t)
    (hf : p = true → s.Does (f s.quiet)) : s.Does t := by
  obtain hn | ⟨-, hp, hn⟩ := happen_cases s p f
  · rw [hn] at h
    obtain rfl := Host.Outcome.next.inj h
    exact .same (.refl s)
  · rw [hn] at h
    obtain rfl := Host.Outcome.next.inj h
    exact hf hp

theorem quiet_sameWork (s : State) : s.SameWork s.quiet := ⟨⟨rfl, rfl, rfl, rfl⟩, rfl, rfl, rfl, rfl⟩

theorem taken_sameWork (s : State) (k : Port) : s.SameWork (s.taken k) := ⟨⟨rfl, rfl, rfl, rfl⟩, rfl, rfl, rfl, rfl⟩

/-- A row of the window that is told by the whole transaction. -/
theorem takeWindow_does {named : Transaction → Bool} {effect : Port → Transaction → State → State}
    (h : takeRequest s named (fun s k x => s.checkedAccess k x (effect k x)) = .next t)
    (he : ∀ (u : State) (k : Port) (x : Transaction), u.WindowDoes k (effect k x u)) : s.Does t := by
  obtain hn | ⟨k, x, hx, -, hn⟩ := takeRequest_cases s named fun s k x => s.checkedAccess k x (effect k x)
  · rw [hn] at h
    obtain rfl := Host.Outcome.next.inj h
    exact .same (.refl s)
  · rw [hn] at h
    obtain rfl := Host.Outcome.next.inj h
    exact .window (taken_sameWork s k) k x (granted_flight hx.2) (checkedAccess_does _ k x (he _ k x))

/-- A row of the window that is a write of a command. -/
theorem takeWrite_does {named : Reg → Bool} {value : Word → Bool} {effect : State → Port → Word → State}
    (h : takeWrite s named value effect = .next t)
    (he : ∀ (u : State) (k : Port) (v : Word), u.WindowDoes k (effect u k v)) : s.Does t :=
  takeWindow_does (effect := fun k x s => effect s k x.wdata) h fun u k x => he u k x.wdata

/-- A row of the directory. -/
theorem takeIntake_does {named : Transaction → Bool} (h : takeRequest s named State.intake = .next t) : s.Does t := by
  obtain hn | ⟨k, x, hx, -, hn⟩ := takeRequest_cases s named State.intake
  · rw [hn] at h
    obtain rfl := Host.Outcome.next.inj h
    exact .same (.refl s)
  · rw [hn] at h
    obtain rfl := Host.Outcome.next.inj h
    obtain hc | ⟨r, hd⟩ := intake_cases (s.taken k) k x
    · rw [hc]
      exact .window (taken_sameWork s k) k x (granted_flight hx.2) (controlAccess_does _ k x)
    · exact .directed (taken_sameWork s k) k x (granted_flight hx.2) _ rfl hd

theorem execPortReset_does {k : Port} (h : execPortReset k s = .next t) : s.Does t := by
  unfold execPortReset at h
  split at h <;> obtain rfl := Host.Outcome.next.inj h
  · exact .lineLevel (.refl s) k true
  · exact .portReset (quiet_sameWork s) k

theorem execPortResetDeassert_does {k : Port} (h : execPortResetDeassert k s = .next t) : s.Does t := by
  unfold execPortResetDeassert at h
  split at h <;> obtain rfl := Host.Outcome.next.inj h
  · exact .lineLevel (.refl s) k false
  · exact .lineLevel (quiet_sameWork s) k false

theorem execPowerOnReset_does {asserted : Bool} (h : execPowerOnReset asserted s = .next t) : s.Does t := by
  unfold execPowerOnReset at h
  split at h
  · obtain rfl := Host.Outcome.next.inj h
    exact .powerOn true
  · split at h <;> obtain rfl := Host.Outcome.next.inj h
    · rw [resetAsserted_atPowerOn]
      exact .powerOn false
    · exact .same (.refl s)

theorem execAck_does {data : Word} (h : execAck data s = .next t) : s.Does t :=
  happen_does h fun _ => .acked (quiet_sameWork s) data

theorem execErr_does {withAck : Bool} (h : execErr withAck s = .next t) : s.Does t :=
  happen_does h fun _ => .errored (quiet_sameWork s)

theorem execReadyTimeout_does (h : execReadyTimeout s = .next t) : s.Does t :=
  happen_does h fun _ => .timedOut (quiet_sameWork s) _

theorem execExpiry_does {e : ResId} (h : execExpiry e s = .next t) : s.Does t :=
  happen_does h fun _ => .elapsed (quiet_sameWork s) _ (.withRes (.refl _) _)

theorem execAcknowledgement_does {k : Port} {w : Word} (h : execAcknowledgement k w s = .next t) : s.Does t :=
  happen_does h fun _ => .same ((quiet_sameWork s).trans ⟨⟨rfl, rfl, rfl, rfl⟩, rfl, rfl, rfl, rfl⟩)

theorem execForeignWrite_does {a : Word} (h : execForeignWrite a s = .next t) : s.Does t :=
  happen_does h fun _ => .same ((quiet_sameWork s).trans ⟨⟨rfl, rfl, rfl, rfl⟩, rfl, rfl, rfl, rfl⟩)

theorem execCleanSweepStep_does (h : execCleanSweepStep s = .next t) : s.Does t :=
  happen_does h fun _ => .swept (quiet_sameWork s) (cleanStep_makesDrain _)

theorem execFlushSweepStep_does (h : execFlushSweepStep s = .next t) : s.Does t :=
  happen_does h fun _ => .swept (quiet_sameWork s) (flushStep_makesDrain _)

theorem execDiscardSweepStep_does (h : execDiscardSweepStep s = .next t) : s.Does t :=
  happen_does h fun _ => .same ((quiet_sameWork s).trans (discardStep_sameWork _))

theorem execNoticeTimeout_does {k : Port} (h : execNoticeTimeout k s = .next t) : s.Does t := by
  refine happen_does h fun _ => ?_
  unfold State.noticeTimedOut
  split
  · exact .elapsed (quiet_sameWork s) _ (.refl _)
  · exact .noticeTimedOut (quiet_sameWork s) _ k (.record (.refl _) _)

theorem execProbeTimerRunOut_does {r : RegionId} (h : execProbeTimerRunOut r s = .next t) : s.Does t := by
  refine happen_does h fun hp => ?_
  cases hn : s.regions[r].probeTimer with
  | none => simp [-Fin.getElem_fin, hn] at hp
  | some n => exact .probeQueued (quiet_sameWork s) _ r n hn

theorem execEvaluation_does (h : execEvaluation s = .next t) : s.Does t := by
  refine happen_does h fun _ => ?_
  obtain hs | ⟨i, hi⟩ := evaluate_sameWork s.quiet
  · exact .same ((quiet_sameWork s).trans hs)
  · exact .tainted (quiet_sameWork s) i hi

theorem execAcceptance_does {k : Port} {x : Transaction} (h : execAcceptance k x s = .next t) : s.Does t := by
  refine happen_does h fun hp => .accepted k x ?_ ⟨⟨rfl, rfl, rfl, rfl⟩, rfl, rfl, rfl, rfl⟩
  simp only [State.accepts, Bool.and_eq_true, Option.isNone_iff_eq_none] at hp
  exact hp.1

theorem execEventHead_does (h : execEventHead s = .next t) : s.Does t := by
  refine takeWindow_does (effect := fun k x s =>
    if regOf x == some .eventHead0 then s.readWindow k .eventHead0 else s.readWindow k .eventHead1) h fun u k x => ?_
  split
  · exact readWindow_does u k _
  · exact readWindow_does u k _

theorem execPortCfg_does (h : execPortCfg s = .next t) : s.Does t := by
  refine takeWindow_does (effect := fun k x s => match (regOf x).bind Reg.cfgPort? with
    | none => s
    | some j => s.writePortCfg j k x.wdata) h fun u k x => ?_
  split
  · exact .left
  · exact writePortCfg_does u k _ _

theorem execRegion_does (h : execRegion s = .next t) : s.Does t := by
  refine takeWindow_does (effect := fun k x s => match (regOf x).bind Reg.regionWord? with
    | none => s
    | some (n, w) => s.writeRegion n w k x.wdata) h fun u k x => ?_
  split
  · exact .left
  · exact writeRegion_does u k _ _ _

theorem execControlWindowWrite_does (h : execControlWindowWrite s = .next t) : s.Does t := by
  refine takeWindow_does (effect := fun k x s => match regOf x with
    | none => s
    | some g => s.writeParameter k g x.wdata) h fun u k x => ?_
  split
  · exact .left
  · exact writeParameter_does u k _ _

/-- What every command can do. -/
theorem exec_does (c : Instr) (h : exec c s = .next t) : s.Does t := by
  cases c with
  | acceptance k x => exact execAcceptance_does h
  | read | write | lineRead | lineWrite | reserveRead | releaseWrite | release => exact takeIntake_does h
  | portReset k => exact execPortReset_does h
  | portResetDeassert k => exact execPortResetDeassert_does h
  | powerOnReset asserted => exact execPowerOnReset_does h
  | ack data => exact execAck_does h
  | err withAck => exact execErr_does (withAck := withAck) h
  | readyTimeout => exact execReadyTimeout_does h
  | probeTimerRunOut r => exact execProbeTimerRunOut_does h
  | expiry e => exact execExpiry_does h
  | acknowledgement k w => exact execAcknowledgement_does h
  | noticeTimeout k => exact execNoticeTimeout_does h
  | foreignWrite a => exact execForeignWrite_does h
  | evaluation => exact execEvaluation_does h
  | cleanSweepStep => exact execCleanSweepStep_does h
  | flushSweepStep => exact execFlushSweepStep_does h
  | discardSweepStep => exact execDiscardSweepStep_does h
  | run =>
    exact takeWrite_does (show execRun s = _ from h) fun u k _ =>
      ok_does u k ⟨⟨rfl, rfl, rfl, rfl⟩, rfl, rfl, rfl, rfl⟩
  | softReset => exact takeWrite_does (show execSoftReset s = _ from h) fun u k _ => .softReset
  | portCfg => exact execPortCfg_does h
  | attach => exact takeWrite_does (show execAttach s = _ from h) attachPort_does
  | detach => exact takeWrite_does (show execDetach s = _ from h) detachPort_does
  | controlWindowWrite => exact execControlWindowWrite_does h
  | region => exact execRegion_does h
  | enable => exact takeWrite_does (show execEnable s = _ from h) enableRegion_does
  | disable => exact takeWrite_does (show execDisable s = _ from h) disableRegion_does
  | forceProbe => exact takeWrite_does (show execForceProbe s = _ from h) forceProbe_does
  | forceOnline => exact takeWrite_does (show execForceOnline s = _ from h) forceOnline_does
  | forceOffline => exact takeWrite_does (show execForceOffline s = _ from h) forceOffline_does
  | clean => exact takeWrite_does (show execClean s = _ from h) fun u k v => startSweep_does u k v .clean
  | flush => exact takeWrite_does (show execFlush s = _ from h) fun u k v => startSweep_does u k v .flush
  | discard => exact takeWrite_does (show execDiscard s = _ from h) fun u k v => startSweep_does u k v .discard
  | abort => exact takeWrite_does (show execAbort s = _ from h) fun u k _ => abortSweep_does u k
  | lineQuery => exact takeWrite_does (show execLineQuery s = _ from h) queryLine_does
  | eventHead => exact execEventHead_does h
  | eventPop => exact takeWrite_does (show execEventPop s = _ from h) fun u k _ => popEvent_does u k

/-- What every step can do, to the state as it is or without the command it takes. -/
theorem step_does (h : step s = .next t) : ∃ u, s.SameWork u ∧ u.Does t := by
  unfold step at h
  split at h
  · split at h
    · obtain rfl := Host.Outcome.next.inj h
      refine ⟨s, .refl s, ?_⟩
      unfold State.tick
      split
      · exact .same (.refl s)
      · exact .elapsed (.refl s) 1 (.refl _)
    · exact ⟨s, .refl s, exec_does _ h⟩
  · next c cs _ => exact ⟨s.withPending cs, ⟨⟨rfl, rfl, rfl, rfl⟩, rfl, rfl, rfl, rfl⟩, exec_does c h⟩

end Steps

end Sys2Proof.Machine

/-! ## Parameters, retry counts and control permission -/

namespace Sys2Proof.Machine

/-! ### One port at a time -/

section Ports

variable {s u t : State}

/-- Where the ports and the parameters stay, their bounds stay. -/
theorem State.parametersSound.same (h : s.parametersSound) (f : s.SamePorts u) : u.parametersSound := by
  unfold State.parametersSound
  rw [f.ports, f.urgency, f.resTime, f.noticeTime]
  exact h

/-- A port that keeps its permission and a bounded retry count keeps the whole in bounds. -/
theorem State.parametersSound.setPort (h : s.parametersSound) (k : Port) (p : MasterPort) (hr : p.retry ≤ 15)
    (hp : p.permission = s.ports[k].permission) : (s.setPort k p).parametersSound := by
  obtain ⟨hu, ht, hn, hretry, i, hi⟩ := h
  refine ⟨hu, ht, hn, fun j => ?_, i, ?_⟩
  · rw [State.setPort_ports, setAt_getElem]
    split
    · exact hr
    · exact hretry j
  · rw [State.setPort_ports, setAt_getElem]
    split
    · next hk => rw [hp, hk, hi]
    · exact hi

theorem State.parametersSound.retry (h : s.parametersSound) (k : Port) : s.ports[k].retry ≤ 15 := by
  obtain ⟨-, -, -, hretry, -⟩ := h
  exact hretry k

/-- A retry count after a response is at most 15 (R13). -/
theorem retryAfter_le {n : Nat} (r : Response) : retryAfter r n ≤ 15 := by
  cases r <;> simp [retryAfter]

theorem State.parametersSound.respond (h : s.parametersSound) (k : Port) (r : Response) :
    (s.respond k r).parametersSound :=
  (h.setPort k (s.ports[k].answered r) (retryAfter_le r) rfl).same ⟨rfl, rfl, rfl, rfl⟩

theorem State.parametersSound.place (h : s.parametersSound) (k : Port) (p : Placement) :
    (s.place k p).parametersSound :=
  h.setPort k _ (h.retry k) rfl

theorem State.parametersSound.setMode (h : s.parametersSound) (k : Port) (m : Mode) :
    (s.setMode k m).parametersSound :=
  h.setPort k _ (h.retry k) rfl

theorem State.parametersSound.makePortOp (h : s.parametersSound) (q : Request) (wt : Bool) :
    (s.makePortOp q wt).parametersSound :=
  (h.place q.port .portOp).same ⟨rfl, rfl, rfl, rfl⟩

theorem State.parametersSound.detach (h : s.parametersSound) (k : Port) : (s.detach k).parametersSound :=
  (h.same (State.SameWork.emptyNotices (.dropSharer (.refl s) k) k).toSamePorts).setMode k _

end Ports

/-! ### The Device Port and the ends of its operations -/

section Frame

variable (s : State)

theorem withSlots_samePorts (slots : Vector (Option Fill) 4) : s.SamePorts { s with slots := slots } :=
  ⟨rfl, rfl, rfl, rfl⟩

theorem withDrains_samePorts (drains : List DrainEntry) (w : Sweep) :
    s.SamePorts { s with drains := drains, sweep := w } := ⟨rfl, rfl, rfl, rfl⟩

theorem withRegions_samePorts (regions : Vector Region 8) : s.SamePorts { s with regions := regions } :=
  ⟨rfl, rfl, rfl, rfl⟩

theorem withDev_samePorts (dev : DevicePort) : s.SamePorts { s with dev := dev } := ⟨rfl, rfl, rfl, rfl⟩

theorem addDrain_samePorts (kind : DrainKind) (l : LineAddr) (h : Held) : s.SamePorts (s.addDrain kind l h) :=
  ⟨rfl, rfl, rfl, rfl⟩

theorem elapse_samePorts (d : Nat) : s.SamePorts (s.elapse d) := ⟨rfl, rfl, rfl, rfl⟩

end Frame

section Device

variable {s t : State} (h : s.parametersSound)
include h

theorem State.parametersSound.setSlot (i : SlotId) (f : Option Fill) : (s.setSlot i f).parametersSound :=
  h.same (withSlots_samePorts s _)

theorem State.parametersSound.setRegion (r : RegionId) (g : Region) : (s.setRegion r g).parametersSound :=
  h.same (withRegions_samePorts s _)

theorem State.parametersSound.withDev (dev : DevicePort) : ({ s with dev := dev } : State).parametersSound :=
  h.same (withDev_samePorts s dev)

theorem State.parametersSound.dropDrain (p : DrainPlace) : (s.dropDrain p).parametersSound :=
  h.same (withDrains_samePorts s _ _)

theorem State.parametersSound.holdDrain (p : DrainPlace) : (s.holdDrain p).parametersSound :=
  h.same (withDrains_samePorts s _ s.sweep)

theorem State.parametersSound.record (e : Event) : (s.record e).parametersSound :=
  h.same (State.SameWork.record (.refl s) e).toSamePorts

theorem State.parametersSound.invalidate (si : SetIdx) (w : WayIdx) : (s.invalidate si w).parametersSound :=
  h.same (State.SameWork.invalidate (.refl s) si w).toSamePorts

theorem State.parametersSound.elapse (d : Nat) : (s.elapse d).parametersSound := h.same (elapse_samePorts s d)

theorem State.parametersSound.settles {k : Port} (hs : s.Settles k t) : t.parametersSound := by
  cases hs with
  | left same => exact h.same same.toSamePorts
  | answered same r => exact (h.same same.toSamePorts).respond k r
  | portOp same q wt _ => exact (h.same same.toSamePorts).makePortOp q wt

theorem State.parametersSound.makesDrain (hd : s.MakesDrain t) : t.parametersSound := by
  cases hd with
  | none same => exact h.same same.toSamePorts
  | made _ kind l x same => exact (h.same (addDrain_samePorts s kind l x)).same same.toSamePorts

theorem State.parametersSound.directs {q : Request} (hd : s.Directs q t) : t.parametersSound := by
  cases hd with
  | settled settles => exact h.settles settles
  | installed evicts r => exact (h.makesDrain evicts).respond q.port r
  | filling evicts w i _ => exact (((h.makesDrain evicts).setSlot i _).withDev _).place q.port _
  | joined i f _ => exact (h.setSlot i _).place q.port _

theorem State.parametersSound.answerAll (qs : List Request) (answer : Request → Response) :
    (s.answerAll qs answer).parametersSound :=
  List.foldlRecOn qs _ h fun _ hu q _ => hu.respond q.port (answer q)

theorem State.parametersSound.serveAll (w : WayIdx) (qs : List Request) : (s.serveAll w qs).parametersSound :=
  List.foldlRecOn qs _ h fun u hu q _ => hu.settles (serve_settles u q w)

theorem State.parametersSound.completeFill (i : SlotId) : (s.completeFill i).parametersSound := by
  unfold State.completeFill
  split
  · exact h
  · split
    · exact ((h.answerAll _ _).invalidate _ _).setSlot i none
    · exact (State.parametersSound.serveAll
        (h.same (State.SameWork.setEntry (.refl s) _ _ _).toSamePorts) _ _).setSlot i none

theorem State.parametersSound.failFill (i : SlotId) (c : FaultCause) : (s.failFill i c).parametersSound := by
  unfold State.failFill
  split
  · exact h
  · exact ((h.answerAll _ _).invalidate _ _).setSlot i none

theorem State.parametersSound.answerOwner (op : Operation) (r : Response) : (s.answerOwner op r).parametersSound := by
  unfold State.answerOwner
  split
  · exact h
  · exact h.respond _ r

theorem State.parametersSound.recordLost (op : Operation) (how : LostHow) :
    (s.recordLost op how).parametersSound := by
  rw [recordLost_eq]
  exact h.same (State.SameWork.withEvents (.refl s) _).toSamePorts

theorem State.parametersSound.failPortOp (op : Operation) (c : FaultCause) (how : LostHow) :
    (s.failPortOp op c how).parametersSound :=
  (h.answerOwner op _).recordLost op how

theorem State.parametersSound.handOn (op : Operation) : (s.handOn op).parametersSound := by
  unfold State.handOn
  split
  · exact h.failFill _ _
  · exact h.holdDrain _
  · exact (h.failPortOp op _ _).withDev _
  · exact (h.failPortOp op _ _).withDev _
  · exact h

theorem State.parametersSound.handOnAll (queued parked : List Operation) :
    (s.handOnAll queued parked).parametersSound :=
  List.foldlRecOn parked _ (List.foldlRecOn queued _ h fun _ hu op _ => hu.handOn op) fun _ hu op _ =>
    hu.failPortOp op _ _

/-- A departure of a region keeps the parameters if what ends its cause does. -/
theorem State.parametersSound.goOffline (r : RegionId) {first : State → State} (e : Event)
    (hf : ∀ u : State, u.parametersSound → (first u).parametersSound) : (s.goOffline r first e).parametersSound :=
  (((((hf _ (h.withDev _)).setRegion r _).handOnAll _ _).record e).setRegion r _).withDev _

theorem State.parametersSound.requeueDrains (r : RegionId) : (s.requeueDrains r).parametersSound :=
  List.foldlRecOn (s.heldDrains r) _ (h.same (withDrains_samePorts s _ s.sweep)) fun _ hu _ _ => hu.withDev _

theorem State.parametersSound.comeOnline (r : RegionId) (e : Event) : (s.comeOnline r e).parametersSound :=
  (((h.setRegion r _).requeueDrains r).record e).withDev _

theorem State.parametersSound.endOrphan : s.endOrphan.parametersSound := (h.withDev _).withDev _

theorem State.parametersSound.handSuccess (op : Operation) (kept : List Word) :
    (s.handSuccess op kept).parametersSound := by
  unfold State.handSuccess
  split
  · exact h.completeFill _
  · exact h.dropDrain _
  · exact (h.answerOwner op _).withDev _
  · exact (h.answerOwner op _).withDev _
  · exact h.comeOnline _ _

theorem State.parametersSound.receive (op : Operation) (w : Word) : (s.receive op w).parametersSound := by
  unfold State.receive
  split
  · exact h.same (withSlots_samePorts s _)
  all_goals exact h

theorem State.parametersSound.ackWord (op : Operation) (rest : List Transfer) (w : Word) (kept : List Word) :
    (s.ackWord op rest w kept).parametersSound := by
  unfold State.ackWord
  split
  · exact (((h.receive op w).withDev _).handSuccess op _).withDev _
  · exact (h.receive op w).withDev _

theorem State.parametersSound.acked (data : Word) : (s.acked data).parametersSound := by
  unfold State.acked
  split
  · exact h
  · exact h.endOrphan
  · unfold State.ackHead
    split
    · exact (h.setRegion _ _).ackWord _ _ _ _
    · split
      · exact (h.setRegion _ _).ackWord _ _ _ _
      · exact (h.setRegion _ _).withDev _
  · exact h

theorem State.parametersSound.loseDrain (p : DrainPlace) : (s.loseDrain p).parametersSound := by
  unfold State.loseDrain
  split
  · exact h
  · exact (h.record _).dropDrain p

theorem State.parametersSound.handError (op : Operation) : (s.handError op).parametersSound := by
  unfold State.handError
  split
  · exact h.failFill _ _
  · exact h.loseDrain _
  · exact (h.failPortOp op _ _).withDev _
  · exact (h.failPortOp op _ _).withDev _
  · exact h.setRegion _ _

theorem State.parametersSound.errored : s.errored.parametersSound := by
  unfold State.errored
  split
  · exact h
  · exact h.endOrphan
  · exact (((h.setRegion _ _).withDev _).handError _).withDev _
  · exact h

theorem State.parametersSound.handTimeout (op : Operation) (crossed : Bool) :
    (s.handTimeout op crossed).parametersSound := by
  unfold State.handTimeout
  split
  · exact h.failFill _ _
  · unfold State.drainTimedOut
    split
    · exact h.dropDrain _
    · split
      · exact h.holdDrain _
      · exact h.withDev _
  · exact (h.failPortOp op _ _).withDev _
  · exact (h.failPortOp op _ _).withDev _
  · exact h.setRegion _ _

theorem State.parametersSound.timedOut : s.timedOut.parametersSound := by
  unfold State.timedOut
  split
  · exact h
  · exact h.endOrphan
  · next op _ _ _ =>
    unfold State.timeoutHead
    split
    · exact ((h.setRegion _ _).withDev _).goOffline _ _ fun u hu => hu.handTimeout op true
    · exact (((h.setRegion _ _).withDev _).handTimeout op false).withDev _
  · exact h

/-! ### Resets and the control window -/

theorem State.parametersSound.portReset (k : Port) : (s.portReset k).parametersSound := by
  have habandon : s.SamePorts (s.abandonFlight k) := by
    rw [abandonFlight_eq]
    exact ⟨rfl, rfl, rfl, rfl⟩
  have hlatches : (s.abandonFlight k).SamePorts { s.abandonFlight k with latches := setAt s.latches k 0 } :=
    ⟨rfl, rfl, rfl, rfl⟩
  have hsame := (State.SameWork.refl ({ s.abandonFlight k with latches := setAt s.latches k 0 } : State)).freeOwned k
    |>.emptyNotices k |>.dropSharer k
  have hports := hsame.ports.trans habandon.ports
  refine (((h.same habandon).same hlatches).same hsame.toSamePorts).setPort k _ (Nat.zero_le _) ?_
  rw [hports]
  rfl

theorem State.parametersSound.softReset (k : Port) : (s.softReset k).parametersSound := by
  obtain ⟨hu, ht, hn, -, i, hi⟩ := h
  refine ⟨hu, ht, hn, fun j => ?_, i, ?_⟩
  · simp [-Fin.getElem_fin, State.softReset, MasterPort.softReset]
  · simpa [-Fin.getElem_fin, State.softReset, MasterPort.softReset] using hi

theorem State.parametersSound.writeMode (j : Port) (coherent : Bool) : (s.writeMode j coherent).parametersSound := by
  unfold State.writeMode
  split
  · exact h.setMode j _
  · exact h
  · exact h
  · exact (h.detach j).setMode j _
  · exact h.setMode j _

end Device

/-- Power-on reset gives the parameters their values and P0 control permission (R8, R185). -/
theorem atPowerOn_parametersSound (s : State) (pin : Bool) : (s.atPowerOn pin).parametersSound := by
  have hretry : ∀ k : Port, State.reset.ports[k].retry ≤ 15 := by decide
  have hpermission : State.reset.ports[(0 : Port)].permission = true := by decide
  have hparameters : State.reset.urgency ≠ 0 ∧ State.reset.resTime ≠ 0 ∧ State.reset.noticeTime ≠ 0 := by decide
  obtain ⟨hu, ht, hn⟩ := hparameters
  refine ⟨hu, ht, hn, fun k => ?_, 0, ?_⟩
  · rw [atPowerOn_port]
    exact hretry k
  · rw [atPowerOn_port]
    exact hpermission

theorem setPort_permission {s : State} {j : Port} {p : MasterPort} (hp : p.permission = s.ports[j].permission)
    (i : Port) : (s.setPort j p).ports[i].permission = s.ports[i].permission := by
  rw [State.setPort_ports, setAt_getElem]
  split
  · next hj => rw [hp, hj]
  · rfl

theorem setMode_permission (s : State) (j : Port) (m : Mode) (i : Port) :
    (s.setMode j m).ports[i].permission = s.ports[i].permission :=
  setPort_permission (p := { s.ports[j] with mode := m }) rfl i

theorem detach_permission (s : State) (j i : Port) : (s.detach j).ports[i].permission = s.ports[i].permission := by
  have hports := (State.SameWork.emptyNotices (.dropSharer (.refl s) j) j).ports
  refine (setMode_permission _ j _ i).trans ?_
  rw [hports]

/-- A mode written leaves every port's control permission (R184). -/
theorem writeMode_permission (s : State) (j : Port) (coherent : Bool) (i : Port) :
    (s.writeMode j coherent).ports[i].permission = s.ports[i].permission := by
  unfold State.writeMode
  split
  · exact setMode_permission s j _ i
  · rfl
  · rfl
  · exact (setMode_permission _ j _ i).trans (detach_permission s j i)
  · exact setMode_permission s j _ i

/-- A word in range is not zero in the bits kept of it (R185). -/
theorem setWidth_ne_zero {n : Nat} {v : Word} (low : 1 ≤ v.toNat) (high : v.toNat < 2 ^ n) : v.setWidth n ≠ 0 := by
  intro hv
  have hzero := congrArg BitVec.toNat hv
  rw [BitVec.toNat_setWidth, Nat.mod_eq_of_lt high, show (0 : BitVec n).toNat = 0 by simp] at hzero
  omega

section Window

variable {s t : State} (h : s.parametersSound)
include h

/-- A permission is written away only while another port has one (R184). -/
theorem State.parametersSound.writePermission (j : Port) (permission eventEnable : Bool)
    (permitted : permission = true ∨ ∃ i : Port, i ≠ j ∧ s.ports[i].permission = true) :
    (s.writePermission j permission eventEnable).parametersSound := by
  have hretry := h.retry
  obtain ⟨hu, ht, hn, -, -⟩ := h
  refine ⟨hu, ht, hn, fun i => ?_, ?_⟩
  · simp only [State.writePermission, State.setPort_ports, setAt_getElem]
    split
    · exact hretry j
    · exact hretry i
  · simp only [State.writePermission, State.setPort_ports, setAt_getElem]
    obtain rfl | ⟨i, hij, hi⟩ := permitted
    · exact ⟨j, by rw [if_pos rfl]⟩
    · exact ⟨i, by rw [if_neg hij.symm, hi]⟩

theorem State.parametersSound.windowDoes {k : Port} (hw : s.WindowDoes k t) : t.parametersSound := by
  cases hw with
  | left => exact h
  | answered same r => exact (h.same same.toSamePorts).respond k r
  | softReset => exact h.softReset k
  | resTime v range =>
    obtain ⟨hu, -, hn, hp⟩ := h
    obtain ⟨low, high⟩ := range
    have written : ({ s with resTime := v.setWidth 8 } : State).parametersSound :=
      ⟨hu, setWidth_ne_zero low (Nat.lt_succ_of_le high), hn, hp⟩
    exact written.respond k _
  | noticeTime v range =>
    obtain ⟨hu, ht, -, hp⟩ := h
    obtain ⟨low, high⟩ := range
    have written : ({ s with noticeTime := v.setWidth 8 } : State).parametersSound :=
      ⟨hu, ht, setWidth_ne_zero low (Nat.lt_succ_of_le high), hp⟩
    exact written.respond k _
  | urgency v range =>
    obtain ⟨-, ht, hn, hp⟩ := h
    obtain ⟨low, high⟩ := range
    have written : ({ s with urgency := v.setWidth 4 } : State).parametersSound :=
      ⟨setWidth_ne_zero low (Nat.lt_succ_of_le high), ht, hn, hp⟩
    exact written.respond k _
  | portCfg j coherent permission eventEnable permitted =>
    refine ((h.writeMode j coherent).writePermission j permission eventEnable ?_).respond k _
    refine permitted.imp_right fun hother => ?_
    simp only [State.othersPermitted, List.any_eq_true, Bool.and_eq_true, bne_iff_ne] at hother
    obtain ⟨i, -, hij, hi⟩ := hother
    exact ⟨i, hij, (writeMode_permission s j coherent i).trans hi⟩
  | attached j m => exact (h.setMode j m).respond k _
  | detached j => exact (h.detach j).respond k _
  | configured r c _ => exact (h.setRegion r _).respond k _
  | enabled r _ => exact (h.setRegion r _).respond k _
  | disabled r _ => exact (h.setRegion r _).respond k _
  | probed r _ n _ => exact ((h.setRegion r _).withDev _).respond k _
  | forcedOnline r e _ => exact ((h.withDev _).comeOnline r e).respond k _
  | forcedOffline r e _ => exact (h.goOffline r e fun _ hu => hu).respond k _

/-- Whatever a step does, the parameters, retry counts and permissions stay in bounds. -/
theorem State.parametersSound.does (hd : s.Does t) : t.parametersSound := by
  cases hd with
  | same same => exact h.same same.toSamePorts
  | accepted k x _ same => exact (h.place k _).same same.toSamePorts
  | lineLevel same k level => exact (h.same same.toSamePorts).setPort k _ ((h.same same.toSamePorts).retry k) rfl
  | portReset same k => exact (h.same same.toSamePorts).portReset k
  | powerOn pin => exact atPowerOn_parametersSound s pin
  | elapsed same d after => exact ((h.same same.toSamePorts).elapse d).same after.toSamePorts
  | acked same data => exact (h.same same.toSamePorts).acked data
  | errored same => exact (h.same same.toSamePorts).errored
  | timedOut same d => exact ((h.same same.toSamePorts).elapse d).timedOut
  | probeQueued same d r n _ =>
    exact (((h.same same.toSamePorts).elapse d).setRegion r _).withDev _
  | noticeTimedOut same d k after => exact (((h.same same.toSamePorts).elapse d).detach k).same after.toSamePorts
  | tainted same i after =>
    exact ((h.same same.toSamePorts).same (withSlots_samePorts _ _)).same after.toSamePorts
  | swept same drain => exact (h.same same.toSamePorts).makesDrain drain
  | directed same k x _ q _ directs => exact (h.same same.toSamePorts).directs directs
  | window same k x _ does => exact (h.same same.toSamePorts).windowDoes does

end Window

/-- Settles O8: each form a step can take keeps the bounds. -/
theorem stepKeepsParametersSound : Obligations.StepKeepsParametersSound := by
  unfold Obligations.StepKeepsParametersSound
  intro s t h hstep
  obtain ⟨u, same, does⟩ := step_does hstep
  exact (h.same same.toSamePorts).does does

end Sys2Proof.Machine

/-! ## The device operation queue and its holders

The queue and the blocks that its operations belong to are brought into step by more than one operation of the model:
the head leaves the queue before its result is handed on, and a departing region's operations leave it all at once. So
the agreement is stated here for any list `Q` of operations that are owed a result, the ones on the queue among them,
and for a set `D` of ports whose parked operation has been taken away and not yet answered. With the queue itself for
`Q` and no port in `D` it is `State.queueSound` (`queueSound_iff`). -/

namespace Sys2Proof.Machine

/-! ### Places on the queue (R134) -/

theorem place_eq_fill {op : Operation} {i : SlotId} : op.place = .fill i ↔ op.kind = .fill i := by
  cases h : op.kind <;> simp [Operation.place, h]

theorem place_eq_drain {op : Operation} {p : DrainPlace} : op.place = .drain p ↔ op.kind = .drain p := by
  cases h : op.kind <;> simp [Operation.place, h]

theorem place_eq_port {op : Operation} {k : Port} : op.place = .port k ↔ op.port? = some k := by
  cases h : op.kind <;> simp [Operation.place, Operation.port?, h]

theorem place_eq_probe {op : Operation} {r : RegionId} : op.place = .probe r ↔ op.kind = .probe ∧ op.region = r := by
  cases h : op.kind <;> simp [Operation.place, h]

/-- No two operations take one place. -/
def placesDiffer (Q : List Operation) : Prop := (Q.map Operation.place).Nodup

theorem placesDiffer.perm {Q Q' : List Operation} (h : placesDiffer Q) (hp : Q.Perm Q') : placesDiffer Q' :=
  (hp.map _).nodup_iff.mp h

theorem placesDiffer_cons {op : Operation} {Q : List Operation} :
    placesDiffer (op :: Q) ↔ (∀ x ∈ Q, x.place ≠ op.place) ∧ placesDiffer Q := by
  simp [placesDiffer, eq_comm]

theorem placesDiffer_append_singleton {op : Operation} {Q : List Operation} :
    placesDiffer (Q ++ [op]) ↔ (∀ x ∈ Q, x.place ≠ op.place) ∧ placesDiffer Q := by
  rw [← placesDiffer_cons]
  have hp : (Q ++ [op]).Perm (op :: Q) := List.perm_append_singleton op Q
  exact ⟨fun h => h.perm hp, fun h => h.perm hp.symm⟩

/-! ### The Device Port (R136) -/

theorem kick_queue (d : DevicePort) (regions : Vector Region 8) : (d.kick regions).queue = d.queue := by
  unfold DevicePort.kick
  split <;> rfl

theorem kick_places (d : DevicePort) (regions : Vector Region 8) : (d.kick regions).places = d.places := by
  unfold DevicePort.kick
  split <;> rfl

theorem join_queue (d : DevicePort) (regions : Vector Region 8) (op : Operation) :
    (d.join regions op).queue = d.queue ++ [op] :=
  kick_queue _ _

theorem join_places (d : DevicePort) (regions : Vector Region 8) (op : Operation) :
    (d.join regions op).places = d.places :=
  kick_places _ _

/-- A place whose port's operation ends is FREE if nothing is parked (R146, R148). -/
theorem release_unparked {d : DevicePort} {k : Port} (regions : Vector Region 8) (h : d.places[k].parked = none) :
    d.release regions k = { d with places := setAt d.places k .free } := by
  cases hp : d.places[k] with
  | free | active => simp only [DevicePort.release, hp]
  | orphaned parked =>
    rw [hp] at h
    obtain rfl : parked = none := h
    simp only [DevicePort.release, hp]

/-- A parked operation takes the place of the one that ends (R149). -/
theorem release_parked {d : DevicePort} {k : Port} {op : Operation} (regions : Vector Region 8)
    (h : d.places[k] = .orphaned (some op)) :
    d.release regions k = ({ d with places := setAt d.places k .active } : DevicePort).join regions op := by
  simp only [DevicePort.release, h]

/-- Every transfer of an operation is of its region (R137). -/
theorem transfersOfUnits_region (r : RegionId) (write : Bool) (l : LineAddr) (i : WordIdx) (need : Lanes) (d : Word)
    (us : List (Lanes × BitVec 2)) : ∀ x ∈ transfersOfUnits r write l i need d us, x.region = r := by
  induction us with
  | nil => simp [transfersOfUnits]
  | cons u us ih =>
    cases us with
    | nil => simp [transfersOfUnits, transferOfUnit]
    | cons v vs =>
      rw [transfersOfUnits, List.forall_mem_cons]
      exact ⟨rfl, ih⟩

theorem transfers_region (op : Operation) (w : Width) : ∀ x ∈ op.transfers w, x.region = op.region := by
  intro x hx
  obtain ⟨p, -, hp⟩ := List.mem_flatMap.mp hx
  exact transfersOfUnits_region _ _ _ _ _ _ _ x hp

/-- A BUSY Device Port presents a transfer of the head's region (R136, R137). -/
def DevicePort.headed (d : DevicePort) : Prop :=
  ∀ now timer rest gathered kept, d.phase = .busy now timer rest gathered kept →
    ∃ op q, d.queue = op :: q ∧ ∀ x ∈ now :: rest, x.region = op.region

theorem headed_of_idle {d : DevicePort} (h : d.phase = .idle) : d.headed := by
  intro now timer rest gathered kept hb
  simp [h] at hb

/-- Turning to the head of a queue presents a transfer of the head's region. -/
theorem presentHead_headed {d : DevicePort} {regions : Vector Region 8} (h : d.phase = presentHead regions d.queue) :
    d.headed := by
  intro now timer rest gathered kept hb
  rw [h] at hb
  unfold presentHead at hb
  split at hb
  · cases hb
  · next op q hq =>
    split at hb
    · cases hb
    · next t ts ht =>
      obtain ⟨rfl, -, rfl, -, -⟩ := DevPhase.busy.inj hb
      exact ⟨op, q, hq, ht ▸ transfers_region op _⟩

theorem DevicePort.headed.kick {d : DevicePort} (h : d.headed) (regions : Vector Region 8) :
    (d.kick regions).headed := by
  by_cases hp : d.phase = .idle
  · rw [kick_idle regions hp]
    exact presentHead_headed rfl
  · rw [kick_of_ne regions hp]
    exact h

/-- More work at the tail leaves the head. -/
theorem DevicePort.headed.append {d : DevicePort} (h : d.headed) (ops : List Operation) :
    ({ d with queue := d.queue ++ ops } : DevicePort).headed := by
  intro now timer rest gathered kept hb
  obtain ⟨op, q, hq, hx⟩ := h now timer rest gathered kept hb
  exact ⟨op, q ++ ops, by rw [hq]; rfl, hx⟩

theorem DevicePort.headed.join {d : DevicePort} (h : d.headed) (regions : Vector Region 8) (op : Operation) :
    (d.join regions op).headed :=
  (h.append [op]).kick regions

/-- The places have no part in what is presented. -/
theorem DevicePort.headed.withPlaces {d : DevicePort} (h : d.headed) (places : Vector Place 4) :
    ({ d with places := places } : DevicePort).headed := h

theorem DevicePort.headed.submit {d : DevicePort} (h : d.headed) (regions : Vector Region 8) (k : Port)
    (op : Operation) : (d.submit regions k op).headed := by
  unfold DevicePort.submit
  split
  · exact h.withPlaces _
  · exact (h.withPlaces _).join regions op
  · exact (h.withPlaces _).join regions op

theorem DevicePort.headed.release {d : DevicePort} (h : d.headed) (regions : Vector Region 8) (k : Port) :
    (d.release regions k).headed := by
  unfold DevicePort.release
  split
  · exact (h.withPlaces _).join regions _
  · exact h.withPlaces _
  · exact h.withPlaces _
  · exact h.withPlaces _

/-- A head that leaves takes the presentation with it as an orphan; any other head stays (R136, R144). -/
theorem DevicePort.headed.remove {d : DevicePort} (h : d.headed) (leaves : Operation → Bool) :
    (d.remove leaves).headed := by
  intro now timer rest gathered kept hb
  unfold DevicePort.remove stopped at hb
  split at hb
  · next hd hq =>
    split at hb
    · cases hb
    · next op _ hl =>
      obtain ⟨op', q, hq', hx⟩ := h now timer rest gathered kept (hd.trans hb)
      obtain ⟨rfl, rfl⟩ := List.cons.inj (hq.symm.trans hq')
      exact ⟨op, _, by simp [DevicePort.remove, hq, hl]; rfl, hx⟩
  · next hd hq =>
    obtain ⟨op', q, hq', -⟩ := h _ _ _ _ _ hd
    simp [hq] at hq'
  · cases hb
  · cases hb

/-- An operation that is abandoned keeps its place, region and line (R148). -/
theorem disown_same (k : Port) (op : Operation) : (op.disown k).kind = op.kind ∧ (op.disown k).region = op.region ∧
    (op.disown k).line = op.line := by
  rw [disown_eq]
  split <;> exact ⟨rfl, rfl, rfl⟩

theorem DevicePort.headed.abandon {d : DevicePort} (h : d.headed) (k : Port) : (d.abandon k).headed := by
  unfold DevicePort.abandon
  split
  · exact h
  · intro now timer rest gathered kept hb
    obtain ⟨op, q, hq, hx⟩ := h now timer rest gathered kept hb
    refine ⟨op.disown k, q.map (Operation.disown k), by rw [hq]; rfl, fun x hm => ?_⟩
    rw [hx x hm, (disown_same k op).2.1]
  · exact h.withPlaces _

end Sys2Proof.Machine

namespace Sys2Proof.Machine

/-! ### The agreement with a list of operations -/

/-- The state with `Q` for the device operation queue. -/
def State.owing (s : State) (Q : List Operation) : State := { s with dev := { s.dev with queue := Q } }

/-- What a fill slot and the operations agree on (R53, R54). -/
def State.slotAgrees (s : State) (Q : List Operation) (i : SlotId) : Prop :=
  match s.slots[i] with
  | none => ∀ op ∈ Q, op.kind ≠ .fill i
  | some f =>
    (∀ q ∈ f.requester, q.port = f.allocPort ∧ s.ports[q.port].flight = some (.requester i)) ∧
      (∀ q ∈ f.waiters, q.port ≠ f.allocPort ∧ s.ports[q.port].flight = some (.waiter i)) ∧
      (f.waiters.map (·.port)).Nodup ∧ ∃ op ∈ Q, op.kind = .fill i ∧ op.region = f.region ∧ op.line = f.line

/-- What a port's place and the operations agree on (R145, R148, R149). A port in `D` is still placed PORT_OP for a
parked operation that its place does not hold any longer. -/
def State.portAgrees (s : State) (Q : List Operation) (D : List Port) (k : Port) : Prop :=
  match s.dev.places[k] with
  | .free => (∀ op ∈ Q, op.port? ≠ some k) ∧ (s.ports[k].flight = some .portOp ↔ k ∈ D)
  | .active => (∃ op ∈ Q, op.port? = some k ∧ op.owner = some k) ∧ s.ports[k].flight = some .portOp ∧ k ∉ D
  | .orphaned none => (∃ op ∈ Q, op.port? = some k ∧ op.owner = none) ∧ (s.ports[k].flight = some .portOp ↔ k ∈ D)
  | .orphaned (some x) => (∃ op ∈ Q, op.port? = some k ∧ op.owner = none) ∧ s.ports[k].flight = some .portOp ∧ k ∉ D ∧
      x.port? = some k ∧ x.owner = some k

/-- The fill slots, the drain buffer, the places and the ports agree with the operations `Q`. -/
structure State.Agrees (s : State) (Q : List Operation) (D : List Port) : Prop where
  places : placesDiffer Q
  slots : ∀ i, s.slotAgrees Q i
  drains : (s.owing Q).drainsQueued
  ports : ∀ k, s.portAgrees Q D k

/-- The agreement with the queue itself is what `State.queueSound` asks of the slots. -/
theorem fillsQueued_iff {s : State} : s.fillsQueued ↔ ∀ i, s.slotAgrees s.dev.queue i := by
  constructor
  · rintro ⟨hslots, hops⟩ i
    unfold State.slotAgrees
    split
    · next hi => exact fun op hop hk => hops op hop i hk hi
    · next f hf => exact hslots i f hf
  · refine fun h => ⟨fun i f hf => ?_, fun op hop i hk hi => ?_⟩
    · have hi := h i
      simp only [State.slotAgrees, hf] at hi
      exact hi
    · have hi' := h i
      simp only [State.slotAgrees, hi] at hi'
      exact hi' op hop hk

/-- The agreement with the queue itself is what `State.queueSound` asks of the places. -/
theorem portOpsQueued_iff {s : State} : s.portOpsQueued ↔ ∀ k, s.portAgrees s.dev.queue [] k := by
  refine forall_congr' fun k => ?_
  unfold State.portAgrees
  cases hp : s.dev.places[k] with
  | free | active => simp
  | orphaned parked =>
    cases parked with
    | none => simp
    | some x =>
      simp
      tauto

theorem queueSound_iff {s : State} :
    s.queueSound ↔ s.Agrees s.dev.queue [] ∧ s.probesQueued ∧ s.dev.headed := by
  constructor
  · rintro ⟨hplaces, hfills, hdrains, hports, hprobes, hheaded⟩
    exact ⟨⟨hplaces, fillsQueued_iff.mp hfills, hdrains, portOpsQueued_iff.mp hports⟩, hprobes, hheaded⟩
  · rintro ⟨⟨hplaces, hslots, hdrains, hports⟩, hprobes, hheaded⟩
    exact ⟨hplaces, fillsQueued_iff.mpr hslots, hdrains, portOpsQueued_iff.mpr hports, hprobes, hheaded⟩

/-! ### What the agreement depends on -/

/-- A fill holds a transaction of port `k`. -/
def Fill.holds (f : Fill) (k : Port) : Prop := ∃ q ∈ f.served, q.port = k

theorem Fill.holds_requester {f : Fill} {q : Request} (h : q ∈ f.requester) : f.holds q.port :=
  ⟨q, List.mem_append_left _ (Option.mem_toList.mpr h), rfl⟩

theorem Fill.holds_waiter {f : Fill} {q : Request} (h : q ∈ f.waiters) : f.holds q.port :=
  ⟨q, List.mem_append_right _ h, rfl⟩

section Congr

variable {s t : State} {Q Q' : List Operation} {D D' : List Port}

theorem State.slotAgrees.congr {i : SlotId} (h : s.slotAgrees Q i) (hslot : t.slots[i] = s.slots[i])
    (hflight : ∀ f, s.slots[i] = some f → ∀ k, f.holds k → t.ports[k].flight = s.ports[k].flight)
    (hops : ∀ op, op.kind = .fill i → (op ∈ Q' ↔ op ∈ Q)) : t.slotAgrees Q' i := by
  unfold State.slotAgrees at h ⊢
  rw [hslot]
  cases hs : s.slots[i] with
  | none =>
    rw [hs] at h
    exact fun op hop hk => h op ((hops op hk).mp hop) hk
  | some f =>
    rw [hs] at h
    obtain ⟨hreq, hwait, hnodup, op, hop, hk, hrl⟩ := h
    refine ⟨fun q hq => ?_, fun q hq => ?_, hnodup, op, (hops op hk).mpr hop, hk, hrl⟩
    · rw [hflight f hs q.port (Fill.holds_requester hq)]
      exact hreq q hq
    · rw [hflight f hs q.port (Fill.holds_waiter hq)]
      exact hwait q hq

theorem State.portAgrees.congr {k : Port} (h : s.portAgrees Q D k) (hplace : t.dev.places[k] = s.dev.places[k])
    (hflight : t.ports[k].flight = some .portOp ↔ s.ports[k].flight = some .portOp) (hD : k ∈ D' ↔ k ∈ D)
    (hops : ∀ op, op.port? = some k → (op ∈ Q' ↔ op ∈ Q)) : t.portAgrees Q' D' k := by
  have hexists {p : Operation → Prop} (he : ∃ op ∈ Q, op.port? = some k ∧ p op) :
      ∃ op ∈ Q', op.port? = some k ∧ p op := by
    obtain ⟨op, hop, hk, hp⟩ := he
    exact ⟨op, (hops op hk).mpr hop, hk, hp⟩
  unfold State.portAgrees at h ⊢
  rw [hplace]
  cases hp : s.dev.places[k] with
  | free =>
    rw [hp] at h
    rw [hflight, hD]
    exact ⟨fun op hop hk => h.1 op ((hops op hk).mp hop) hk, h.2⟩
  | active =>
    rw [hp] at h
    rw [hflight, hD]
    exact ⟨hexists h.1, h.2⟩
  | orphaned parked =>
    cases parked <;>
    · rw [hp] at h
      dsimp only at h ⊢
      rw [hflight, hD]
      exact ⟨hexists h.1, h.2⟩

theorem drainsQueued_congr (h : (s.owing Q).drainsQueued) (hdrains : t.drains = s.drains)
    (hops : ∀ op p, op.kind = .drain p → (op ∈ Q' ↔ op ∈ Q)) : (t.owing Q').drainsQueued := by
  obtain ⟨hnodup, hqueued, hheld⟩ := h
  refine ⟨?_, fun e he hh => ?_, fun op hop p hp => ?_⟩
  · rw [show (t.owing Q').drains = s.drains from hdrains]
    exact hnodup
  · exact (hops e.op e.place rfl).mpr (hqueued e (hdrains ▸ he) hh)
  · obtain ⟨e, he, hh, heq⟩ := hheld op ((hops op p hp).mp hop) p hp
    exact ⟨e, hdrains.symm ▸ he, hh, heq⟩

/-- The blocks that the agreement speaks of are in `u` as they are in `s`. -/
structure State.SameClaims (s u : State) : Prop where
  slots : u.slots = s.slots
  drains : u.drains = s.drains
  places : u.dev.places = s.dev.places
  flight : ∀ k : Port, u.ports[k].flight = s.ports[k].flight

theorem State.SameWork.claims (f : s.SameWork t) : s.SameClaims t :=
  ⟨f.slots, f.drains, by rw [f.dev], fun k => by rw [f.ports]⟩

theorem State.Agrees.same (h : s.Agrees Q D) (f : s.SameClaims t) : t.Agrees Q D where
  places := h.places
  slots i := (h.slots i).congr (by rw [f.slots]) (fun _ _ k _ => f.flight k) fun _ _ => Iff.rfl
  drains := drainsQueued_congr h.drains f.drains fun _ _ _ => Iff.rfl
  ports k := (h.ports k).congr (by rw [f.places]) (by rw [f.flight]) Iff.rfl fun _ _ => Iff.rfl

theorem State.Agrees.perm (h : s.Agrees Q D) (hp : Q.Perm Q') : s.Agrees Q' D where
  places := h.places.perm hp
  slots i := (h.slots i).congr rfl (fun _ _ _ _ => rfl) fun _ _ => hp.mem_iff.symm
  drains := drainsQueued_congr h.drains rfl fun _ _ _ => hp.mem_iff.symm
  ports k := (h.ports k).congr rfl Iff.rfl Iff.rfl fun _ _ => hp.mem_iff.symm

/-! ### Steps that concern one place -/

/-- Port `k` has no transaction with a fill or a port operation. -/
def State.unheld (s : State) (k : Port) : Prop :=
  s.ports[k].flight ≠ some .portOp ∧ ∀ (i : SlotId) (f : Fill), s.slots[i] = some f → ¬f.holds k

/-- The transactions of a slot are placed so at their ports. -/
theorem State.slotAgrees.flight {i : SlotId} {f : Fill} {k : Port} (h : s.slotAgrees Q i) (hf : s.slots[i] = some f)
    (hk : f.holds k) : s.ports[k].flight = some (.requester i) ∨ s.ports[k].flight = some (.waiter i) := by
  simp only [State.slotAgrees, hf] at h
  obtain ⟨hreq, hwait, -⟩ := h
  obtain ⟨q, hq, rfl⟩ := hk
  rcases List.mem_append.mp hq with hq | hq
  · exact .inl (hreq q (Option.mem_toList.mp hq)).2
  · exact .inr (hwait q hq).2

/-- A port whose transaction is not in the hub's work is not held. -/
theorem State.Agrees.unheld_of_flight (h : s.Agrees Q D) {k : Port} (hp : s.ports[k].flight ≠ some .portOp)
    (hr : ∀ i, s.ports[k].flight ≠ some (.requester i)) (hw : ∀ i, s.ports[k].flight ≠ some (.waiter i)) :
    s.unheld k :=
  ⟨hp, fun i _ hf hk => ((h.slots i).flight hf hk).elim (hr i) (hw i)⟩

theorem State.Agrees.unheld_idle (h : s.Agrees Q D) {k : Port} (hk : s.ports[k].flight = none) : s.unheld k :=
  h.unheld_of_flight (by simp [-Fin.getElem_fin, hk]) (by simp [-Fin.getElem_fin, hk]) (by simp [-Fin.getElem_fin, hk])

theorem State.Agrees.unheld_atPort (h : s.Agrees Q D) {k : Port} {x : Transaction}
    (hk : s.ports[k].flight = some (.atPort x)) : s.unheld k :=
  h.unheld_of_flight (by simp [-Fin.getElem_fin, hk]) (by simp [-Fin.getElem_fin, hk]) (by simp [-Fin.getElem_fin, hk])

/-- The place of a port that is not held is FREE, or ORPHANED with nothing parked. -/
theorem State.Agrees.place_of_unheld (h : s.Agrees Q D) {k : Port} (hk : s.unheld k) :
    k ∉ D ∧ (s.dev.places[k] = .free ∨ s.dev.places[k] = .orphaned none) := by
  have hp := h.ports k
  obtain ⟨hflight, -⟩ := hk
  unfold State.portAgrees at hp
  cases hpl : s.dev.places[k] with
  | free =>
    rw [hpl] at hp
    exact ⟨fun hD => hflight (hp.2.mpr hD), .inl rfl⟩
  | active =>
    rw [hpl] at hp
    exact absurd hp.2.1 hflight
  | orphaned parked =>
    cases parked with
    | none =>
      rw [hpl] at hp
      exact ⟨fun hD => hflight (hp.2.mpr hD), .inr rfl⟩
    | some x =>
      rw [hpl] at hp
      exact absurd hp.2.1 hflight

/-- A step that concerns port `k`'s transaction, place and operation alone. -/
theorem State.Agrees.port_step (h : s.Agrees Q D) (k : Port) (hslots : t.slots = s.slots)
    (hdrains : t.drains = s.drains)
    (hplaces : ∀ j : Port, j ≠ k → t.dev.places[j] = s.dev.places[j])
    (hflights : ∀ j : Port, j ≠ k → t.ports[j].flight = s.ports[j].flight)
    (hholds : t.ports[k].flight = s.ports[k].flight ∨ ∀ (i : SlotId) (f : Fill), s.slots[i] = some f → ¬f.holds k)
    (hD : ∀ j, j ≠ k → (j ∈ D' ↔ j ∈ D))
    (hops : ∀ op, op.port? ≠ some k → (op ∈ Q' ↔ op ∈ Q)) (hdiffer : placesDiffer Q')
    (hport : t.portAgrees Q' D' k) : t.Agrees Q' D' where
  places := hdiffer
  slots i := by
    refine (h.slots i).congr (by rw [hslots]) (fun f hf j hj => ?_) fun op hk => hops op (by simp [Operation.port?, hk])
    by_cases hjk : j = k
    · rw [hjk]
      exact hholds.resolve_right fun hn => hn i f hf (hjk ▸ hj)
    · exact hflights j hjk
  drains := drainsQueued_congr h.drains hdrains fun op p hp => hops op (by simp [Operation.port?, hp])
  ports j := by
    by_cases hjk : j = k
    · exact hjk ▸ hport
    · refine (h.ports j).congr (hplaces j hjk) (by rw [hflights j hjk]) (hD j hjk) fun op hop => hops op ?_
      rw [hop]
      exact fun he => hjk (Option.some.inj he)

/-- A step that concerns fill slot `i` and its operation, and beside it ports that are not held. -/
theorem State.Agrees.slot_step (h : s.Agrees Q D) (i : SlotId) (hslots : ∀ j : SlotId, j ≠ i → t.slots[j] = s.slots[j])
    (hdrains : t.drains = s.drains) (hplaces : t.dev.places = s.dev.places)
    (hflights : ∀ k : Port, t.ports[k].flight = s.ports[k].flight ∨
      (s.unheld k ∧ t.ports[k].flight ≠ some .portOp))
    (hops : ∀ op, op.kind ≠ .fill i → (op ∈ Q' ↔ op ∈ Q)) (hdiffer : placesDiffer Q') (hslot : t.slotAgrees Q' i) :
    t.Agrees Q' D where
  places := hdiffer
  slots j := by
    by_cases hji : j = i
    · exact hji ▸ hslot
    · refine (h.slots j).congr (hslots j hji) (fun f hf k hk => ?_) fun op hop => hops op (by simp [hop, hji])
      exact (hflights k).resolve_right fun hu => hu.1.2 j f hf hk
  drains := drainsQueued_congr h.drains hdrains fun op p hp => hops op (by simp [hp])
  ports k := by
    refine (h.ports k).congr (by rw [hplaces]) ?_ Iff.rfl fun op hop => hops op fun hk => by
      simp [Operation.port?, hk] at hop
    obtain heq | ⟨hu, hne⟩ := hflights k
    · rw [heq]
    · exact iff_of_false hne hu.1

/-- A step that concerns the drain buffer and its operations alone. -/
theorem State.Agrees.drain_step (h : s.Agrees Q D) (hslots : t.slots = s.slots) (hplaces : t.dev.places = s.dev.places)
    (hflights : ∀ k : Port, t.ports[k].flight = s.ports[k].flight)
    (hops : ∀ op, (∀ p, op.kind ≠ .drain p) → (op ∈ Q' ↔ op ∈ Q)) (hdiffer : placesDiffer Q')
    (hdrains : (t.owing Q').drainsQueued) : t.Agrees Q' D where
  places := hdiffer
  slots i := (h.slots i).congr (by rw [hslots]) (fun _ _ k _ => hflights k) fun op hk => hops op (by simp [hk])
  drains := hdrains
  ports k := (h.ports k).congr (by rw [hplaces]) (by rw [hflights]) Iff.rfl fun op hop => hops op fun p hp => by
    simp [Operation.port?, hp] at hop

/-- A step that concerns probes alone. -/
theorem State.Agrees.probe_step (h : s.Agrees Q D) (hops : ∀ op, op.kind ≠ .probe → (op ∈ Q' ↔ op ∈ Q))
    (hdiffer : placesDiffer Q') : s.Agrees Q' D where
  places := hdiffer
  slots i := (h.slots i).congr rfl (fun _ _ _ _ => rfl) fun op hk => hops op (by simp [hk])
  drains := drainsQueued_congr h.drains rfl fun op p hp => hops op (by simp [hp])
  ports k := (h.ports k).congr rfl Iff.rfl Iff.rfl fun op hop => hops op fun hk => by
    simp [Operation.port?, hk] at hop

end Congr

end Sys2Proof.Machine

namespace Sys2Proof.Machine

/-! ### Rules for the ports' transactions -/

section Ports

variable {s t : State} {P Q : List Operation} {D : List Port} {k : Port}

/-- A port that keeps its placement keeps the agreement. -/
theorem setPort_claims {p : MasterPort} (hp : p.flight = s.ports[k].flight) : s.SameClaims (s.setPort k p) :=
  ⟨rfl, rfl, rfl, fun j => by
    rw [State.setPort_ports, setAt_getElem]
    split
    · next hj => rw [hp, hj]
    · rfl⟩

/-- A port that is not held takes any placement but PORT_OP. -/
theorem State.Agrees.setPort (h : s.Agrees Q D) (hu : s.unheld k) {p : MasterPort} (hp : p.flight ≠ some .portOp) :
    (s.setPort k p).Agrees Q D := by
  refine h.port_step k rfl rfl (fun _ _ => rfl) (fun j hj => ?_) (.inr hu.2) (fun _ _ => Iff.rfl)
    (fun _ _ => Iff.rfl) h.places
    ((h.ports k).congr rfl (iff_of_false ?_ hu.1) Iff.rfl fun _ _ => Iff.rfl)
  · rw [State.setPort_ports, setAt_getElem_ne _ hj.symm]
  · rw [State.setPort_ports, setAt_getElem_self]
    exact hp

/-- A response is to the ports what the placement's end is. -/
theorem respond_claims (s : State) (k : Port) (r : Response) :
    (s.setPort k (s.ports[k].answered r)).SameClaims (s.respond k r) :=
  ⟨rfl, rfl, rfl, fun _ => rfl⟩

theorem State.Agrees.respond (h : s.Agrees Q D) (hu : s.unheld k) (r : Response) : (s.respond k r).Agrees Q D :=
  (h.setPort hu (by simp [MasterPort.answered])).same (respond_claims s k r)

/-- Each port's placement after a response (R7). -/
theorem respond_flight (s : State) (j k : Port) (r : Response) :
    (s.respond j r).ports[k].flight = if j = k then none else s.ports[k].flight := by
  rw [State.respond_ports, setAt_getElem]
  split <;> rfl

/-- A response leaves a port that is not held so. -/
theorem State.unheld.respond (hu : s.unheld k) (j : Port) (r : Response) : (s.respond j r).unheld k := by
  refine ⟨?_, hu.2⟩
  rw [respond_flight]
  split
  · exact fun h => nomatch h
  · exact hu.1

theorem State.unheld.same (hu : s.unheld k) (f : s.SameClaims t) : t.unheld k := by
  unfold State.unheld
  rw [f.flight, f.slots]
  exact hu

/-- A port in `D` is answered for the parked operation that was taken away (R149). -/
theorem State.Agrees.respond_parked (h : s.Agrees Q (k :: D)) (hD : k ∉ D) (r : Response) :
    (s.respond k r).Agrees Q D := by
  have hport := h.ports k
  have hflight : s.ports[k].flight = some .portOp := by
    unfold State.portAgrees at hport
    split at hport
    · exact hport.2.mpr List.mem_cons_self
    · exact hport.2.1
    · exact hport.2.mpr List.mem_cons_self
    · exact hport.2.1
  have hnone : (s.respond k r).ports[k].flight = none := by
    rw [respond_flight, if_pos rfl]
  refine h.port_step k rfl rfl (fun _ _ => rfl) (fun j hj => ?_) (.inr fun i f hf hk => ?_) (fun j hj => ?_)
    (fun _ _ => Iff.rfl) h.places ?_
  · rw [respond_flight, if_neg hj.symm]
  · have := (h.slots i).flight hf hk
    simp [-Fin.getElem_fin, hflight] at this
  · simp [hj]
  · have hiff : (s.respond k r).ports[k].flight = some .portOp ↔ k ∈ D :=
      iff_of_false (fun hp => nomatch hnone.symm.trans hp) hD
    unfold State.portAgrees at hport ⊢
    rw [State.respond_dev]
    split at hport
    · exact ⟨hport.1, hiff⟩
    · exact absurd List.mem_cons_self hport.2.2
    · exact ⟨hport.1, hiff⟩
    · exact absurd List.mem_cons_self hport.2.2.1

/-- A transaction's port operation is its port's own (R145). -/
theorem portOp_port (q : Request) (wt : Bool) :
    (q.portOp wt).port? = some q.port ∧ (q.portOp wt).owner = some q.port := by
  unfold Request.portOp
  split <;> exact ⟨rfl, rfl⟩

/-- A port operation joins the queue, or is parked while the place is ORPHANED (R145, R149). -/
theorem State.Agrees.makePortOp {q : Request} (h : s.Agrees (P ++ s.dev.queue) D) (hu : s.unheld q.port) (wt : Bool) :
    (s.makePortOp q wt).Agrees (P ++ (s.makePortOp q wt).dev.queue) D := by
  obtain ⟨hD, hplace⟩ := h.place_of_unheld hu
  obtain ⟨hown, howner⟩ := portOp_port q wt
  have hport := h.ports q.port
  have hflights (j : Port) (hj : j ≠ q.port) : (s.makePortOp q wt).ports[j].flight = s.ports[j].flight := by
    rw [State.makePortOp_ports, setAt_getElem_ne _ hj.symm]
  have hflight : (s.makePortOp q wt).ports[q.port].flight = some .portOp := by
    rw [State.makePortOp_ports, setAt_getElem_self]
  rcases hplace with hfree | horphaned
  · have hdev : (s.makePortOp q wt).dev =
        ({ s.dev with places := setAt s.dev.places q.port .active } : DevicePort).join s.regions (q.portOp wt) := by
      simp only [State.makePortOp_dev, DevicePort.submit, hfree]
    simp only [State.portAgrees, hfree] at hport
    rw [hdev, join_queue, ← List.append_assoc]
    refine h.port_step q.port rfl rfl (fun j hj => ?_) hflights (.inr hu.2) (fun _ _ => Iff.rfl)
      (fun op hop => ?_) ?_ ?_
    · rw [hdev, join_places, setAt_getElem_ne _ hj.symm]
    · simp only [List.mem_append, List.mem_singleton, or_iff_left_iff_imp]
      rintro rfl
      exact absurd hown hop
    · refine placesDiffer_append_singleton.mpr ⟨fun x hx he => hport.1 x hx ?_, h.places⟩
      rw [← place_eq_port, he, place_eq_port, hown]
    · have hactive : (s.makePortOp q wt).dev.places[q.port] = .active := by
        rw [hdev, join_places, setAt_getElem_self]
      simp only [State.portAgrees, hactive]
      exact ⟨⟨q.portOp wt, List.mem_append_right _ List.mem_cons_self, hown, howner⟩, hflight, hD⟩
  · have hdev : (s.makePortOp q wt).dev =
        { s.dev with places := setAt s.dev.places q.port (.orphaned (some (q.portOp wt))) } := by
      simp only [State.makePortOp_dev, DevicePort.submit, horphaned]
    simp only [State.portAgrees, horphaned] at hport
    rw [hdev]
    refine h.port_step q.port rfl rfl (fun j hj => ?_) hflights (.inr hu.2) (fun _ _ => Iff.rfl)
      (fun _ _ => Iff.rfl) h.places ?_
    · rw [hdev, setAt_getElem_ne _ hj.symm]
    · have hparked : (s.makePortOp q wt).dev.places[q.port] = .orphaned (some (q.portOp wt)) := by
        rw [hdev, setAt_getElem_self]
      simp only [State.portAgrees, hparked]
      exact ⟨hport.1, hflight, hD, hown, howner⟩

/-- The operations beside a port operation that ends: no other is at its place. -/
theorem placesDiffer.port_rest {op : Operation} (h : placesDiffer (op :: Q)) (hk : op.port? = some k) :
    (∀ x ∈ Q, x.port? ≠ some k) ∧ (∀ x ∈ op :: Q, x.port? = some k → x = op) ∧
      ∀ x : Operation, x.port? ≠ some k → (x ∈ Q ↔ x ∈ op :: Q) := by
  have hrest : ∀ x ∈ Q, x.port? ≠ some k := fun x hx he =>
    (placesDiffer_cons.mp h).1 x hx ((place_eq_port.mpr he).trans (place_eq_port.mpr hk).symm)
  refine ⟨hrest, fun x hx he => (List.mem_cons.mp hx).resolve_right fun hm => hrest x hm he, fun x hx => ?_⟩
  rw [List.mem_cons, or_iff_right]
  rintro rfl
  exact hx hk

/-- An operation that its port owns ends: the port is answered and its place FREE (R146). -/
theorem State.Agrees.endOwned {op : Operation} (h : s.Agrees (op :: (P ++ s.dev.queue)) D) (hk : op.port? = some k)
    (hplace : s.dev.places[k] = .active) (r : Response) :
    ((s.respond k r).releasePlace k).Agrees (P ++ ((s.respond k r).releasePlace k).dev.queue) D := by
  obtain ⟨hrest, -, hmem⟩ := h.places.port_rest hk
  have hport := h.ports k
  simp only [State.portAgrees, hplace] at hport
  obtain ⟨-, hflight, hD⟩ := hport
  have hdev : ((s.respond k r).releasePlace k).dev = { s.dev with places := setAt s.dev.places k .free } :=
    release_unparked _ (by rw [State.respond_dev, hplace]; rfl)
  rw [hdev]
  refine h.port_step k rfl rfl (fun j hj => ?_) (fun j hj => ?_) (.inr fun i f hf hi => ?_) (fun _ _ => Iff.rfl)
    hmem (placesDiffer_cons.mp h.places).2 ?_
  · rw [hdev, setAt_getElem_ne _ hj.symm]
  · rw [State.releasePlace_ports, respond_flight, if_neg hj.symm]
  · have := (h.slots i).flight hf hi
    simp [-Fin.getElem_fin, hflight] at this
  · have hfree : ((s.respond k r).releasePlace k).dev.places[k] = .free := by rw [hdev, setAt_getElem_self]
    simp only [State.portAgrees, hfree]
    refine ⟨hrest, iff_of_false ?_ hD⟩
    rw [State.releasePlace_ports, respond_flight, if_pos rfl]
    exact fun hn => nomatch hn

/-- An operation without an owner ends with nothing parked: its place is FREE (R148). -/
theorem State.Agrees.endOrphaned {op : Operation} (h : s.Agrees (op :: (P ++ s.dev.queue)) D) (hk : op.port? = some k)
    (hplace : s.dev.places[k] = .orphaned none) :
    (s.releasePlace k).Agrees (P ++ (s.releasePlace k).dev.queue) D := by
  obtain ⟨hrest, -, hmem⟩ := h.places.port_rest hk
  have hport := h.ports k
  simp only [State.portAgrees, hplace] at hport
  have hdev : (s.releasePlace k).dev = { s.dev with places := setAt s.dev.places k .free } :=
    release_unparked _ (by rw [hplace]; rfl)
  rw [hdev]
  refine h.port_step k rfl rfl (fun j hj => ?_) (fun _ _ => rfl) (.inl rfl) (fun _ _ => Iff.rfl) hmem
    (placesDiffer_cons.mp h.places).2 ?_
  · rw [hdev, setAt_getElem_ne _ hj.symm]
  · have hfree : (s.releasePlace k).dev.places[k] = .free := by rw [hdev, setAt_getElem_self]
    simp only [State.portAgrees, hfree]
    exact ⟨hrest, hport.2⟩

/-- An operation without an owner ends with another parked, which joins the tail (R149). -/
theorem State.Agrees.endParked {op x : Operation} (h : s.Agrees (op :: (P ++ s.dev.queue)) D) (hk : op.port? = some k)
    (hplace : s.dev.places[k] = .orphaned (some x)) :
    (s.releasePlace k).Agrees (P ++ (s.releasePlace k).dev.queue) D := by
  obtain ⟨hrest, -, hmem⟩ := h.places.port_rest hk
  have hport := h.ports k
  simp only [State.portAgrees, hplace] at hport
  obtain ⟨-, hflight, hD, hxk, hxo⟩ := hport
  have hdev : (s.releasePlace k).dev =
      ({ s.dev with places := setAt s.dev.places k .active } : DevicePort).join s.regions x :=
    release_parked _ hplace
  rw [hdev, join_queue, ← List.append_assoc]
  refine h.port_step k rfl rfl (fun j hj => ?_) (fun _ _ => rfl) (.inl rfl) (fun _ _ => Iff.rfl) (fun y hy => ?_) ?_ ?_
  · rw [hdev, join_places, setAt_getElem_ne _ hj.symm]
  · rw [← hmem y hy, List.mem_append, List.mem_singleton, or_iff_left]
    rintro rfl
    exact hy hxk
  · refine placesDiffer_append_singleton.mpr ⟨fun y hy he => hrest y hy ?_, (placesDiffer_cons.mp h.places).2⟩
    rw [← place_eq_port, he, place_eq_port, hxk]
  · have hactive : (s.releasePlace k).dev.places[k] = .active := by
      rw [hdev, join_places, setAt_getElem_self]
    simp only [State.portAgrees, hactive]
    exact ⟨⟨x, List.mem_append_right _ List.mem_cons_self, hxk, hxo⟩, hflight, hD⟩

/-- Port `k`'s operation ends: its owner, if it has one, is answered, and its place is FREE or takes the parked
operation (R146, R148, R149). -/
theorem State.Agrees.endPortOp {op : Operation} (h : s.Agrees (op :: (P ++ s.dev.queue)) D) (hk : op.port? = some k)
    (r : Response) :
    ((s.answerOwner op r).releasePlace k).Agrees (P ++ ((s.answerOwner op r).releasePlace k).dev.queue) D := by
  obtain ⟨-, hself, -⟩ := h.places.port_rest hk
  have hport := h.ports k
  cases hplace : s.dev.places[k] with
  | free =>
    simp only [State.portAgrees, hplace] at hport
    exact absurd hk (hport.1 op List.mem_cons_self)
  | active =>
    simp only [State.portAgrees, hplace] at hport
    obtain ⟨⟨x, hx, hxk, hxo⟩, -⟩ := hport
    obtain rfl := hself x hx hxk
    simp only [State.answerOwner, hxo]
    exact h.endOwned hk hplace r
  | orphaned parked =>
    have howner : op.owner = none := by
      cases parked <;>
      · simp only [State.portAgrees, hplace] at hport
        obtain ⟨⟨x, hx, hxk, hxo⟩, -⟩ := hport
        exact hself x hx hxk ▸ hxo
    simp only [State.answerOwner, howner]
    cases parked with
    | none => exact h.endOrphaned hk hplace
    | some x => exact h.endParked hk hplace

end Ports

end Sys2Proof.Machine

namespace Sys2Proof.Machine

/-! ### Rules for an abandoned port operation (R148, R149) -/

theorem disown_port (k : Port) (op : Operation) : (op.disown k).port? = op.port? := by
  rw [Operation.port?, (disown_same k op).1]
  rfl

theorem disown_place (k : Port) (op : Operation) : (op.disown k).place = op.place := by
  obtain ⟨hkind, hregion, -⟩ := disown_same k op
  rw [Operation.place, hkind, hregion]
  rfl

theorem disown_of_ne {k : Port} {op : Operation} (h : op.port? ≠ some k) : op.disown k = op := by
  rw [disown_eq, if_neg]
  rintro (hk | hk | hk) <;> exact h (by simp [Operation.port?, hk])

theorem disown_owner {k : Port} {op : Operation} (h : op.port? = some k) : (op.disown k).owner = none := by
  rw [disown_eq, if_pos]
  cases hk : op.kind with
  | portRead j => simp_all [Operation.port?]
  | portWrite j wt => cases wt <;> simp_all [Operation.port?]
  | fill | drain | probe => simp [Operation.port?, hk] at h

/-- Only port `k`'s operation is changed as it is abandoned. -/
theorem mem_map_disown {k : Port} {op : Operation} {Q : List Operation} (h : op.port? ≠ some k) :
    op ∈ Q.map (Operation.disown k) ↔ op ∈ Q := by
  rw [List.mem_map]
  constructor
  · rintro ⟨x, hx, rfl⟩
    rw [disown_port] at h
    rwa [disown_of_ne h]
  · exact fun hop => ⟨op, hop, disown_of_ne h⟩

theorem State.Agrees.abandon {s t : State} {k : Port} (h : s.Agrees s.dev.queue [])
    (hk : s.ports[k].flight = some .portOp) (hslots : t.slots = s.slots) (hdrains : t.drains = s.drains)
    (hdev : t.dev = s.dev.abandon k) (hflights : ∀ j : Port, j ≠ k → t.ports[j].flight = s.ports[j].flight)
    (hnone : t.ports[k].flight = none) : t.Agrees t.dev.queue [] := by
  have hport := h.ports k
  have hholds (i : SlotId) (f : Fill) (hf : s.slots[i] = some f) : ¬f.holds k := fun hi => by
    have := (h.slots i).flight hf hi
    simp [-Fin.getElem_fin, hk] at this
  have hidle : t.ports[k].flight = some .portOp ↔ k ∈ ([] : List Port) :=
    iff_of_false (fun hp => nomatch hnone.symm.trans hp) List.not_mem_nil
  cases hplace : s.dev.places[k] with
  | free =>
    simp only [State.portAgrees, hplace] at hport
    exact absurd (hport.2.mp hk) List.not_mem_nil
  | active =>
    simp only [State.portAgrees, hplace] at hport
    obtain ⟨⟨op, hop, hopk, -⟩, -⟩ := hport
    have hdev' : t.dev = { s.dev with
        queue := s.dev.queue.map (Operation.disown k), places := setAt s.dev.places k (.orphaned none) } := by
      simp only [hdev, DevicePort.abandon, hplace]
    have horphaned : t.dev.places[k] = .orphaned none := by rw [hdev', setAt_getElem_self]
    refine h.port_step k hslots hdrains (fun j hj => ?_) hflights (.inr hholds) (fun _ _ => Iff.rfl)
      (fun x hx => ?_) ?_ ?_
    · rw [hdev', setAt_getElem_ne _ hj.symm]
    · rw [hdev']
      exact mem_map_disown hx
    · rw [hdev', placesDiffer, List.map_map, show Operation.place ∘ Operation.disown k = Operation.place from
        funext (disown_place k)]
      exact h.places
    · simp only [State.portAgrees, horphaned]
      refine ⟨⟨op.disown k, ?_, (disown_port k op).trans hopk, disown_owner hopk⟩, hidle⟩
      rw [hdev']
      exact List.mem_map_of_mem hop
  | orphaned parked =>
    have hdev' : t.dev = { s.dev with places := setAt s.dev.places k (.orphaned none) } := by
      simp only [hdev, DevicePort.abandon, hplace]
    have horphaned : t.dev.places[k] = .orphaned none := by rw [hdev', setAt_getElem_self]
    have hqueue : t.dev.queue = s.dev.queue := by rw [hdev']
    refine h.port_step k hslots hdrains (fun j hj => ?_) hflights (.inr hholds) (fun _ _ => Iff.rfl)
      (fun x hx => by rw [hqueue]) (hqueue ▸ h.places) ?_
    · rw [hdev', setAt_getElem_ne _ hj.symm]
    · simp only [State.portAgrees, horphaned, hqueue]
      cases parked with
      | none =>
        simp only [State.portAgrees, hplace] at hport
        exact ⟨hport.1, hidle⟩
      | some x =>
        simp only [State.portAgrees, hplace] at hport
        exact ⟨hport.1, hidle⟩

/-! ### Rules for the fill slots (R53 to R57) -/

section Fills

variable {s : State} {Q : List Operation} {D : List Port} {i : SlotId} {f : Fill} {q : Request}

theorem setSlot_slots_self (s : State) (i : SlotId) (f : Option Fill) : (s.setSlot i f).slots[i] = f := by
  rw [State.setSlot_slots, setAt_getElem_self]

theorem setSlot_slots_ne {i j : SlotId} (s : State) (h : j ≠ i) (f : Option Fill) :
    (s.setSlot i f).slots[j] = s.slots[j] := by
  rw [State.setSlot_slots, setAt_getElem_ne _ h.symm]

/-- Each port's placement after one of them is placed (R6). -/
theorem place_flight (s : State) (j k : Port) (p : Placement) :
    (s.place j p).ports[k].flight = if j = k then some p else s.ports[k].flight := by
  rw [State.place_ports, setAt_getElem]
  split <;> rfl

/-- A free slot takes a fill, and its read joins the queue (R48, R54). -/
theorem State.Agrees.startFill (h : s.Agrees s.dev.queue D) (hu : s.unheld q.port) (hi : s.slots[i] = none)
    (w : WayIdx) (t : State) (ht : t = ((s.setSlot i (some (q.fill w))).enqueue
      (fillOp i q.region q.txn.line q.txn.word)).place q.port (.requester i)) : t.Agrees t.dev.queue D := by
  have hslot := h.slots i
  simp only [State.slotAgrees, hi] at hslot
  have hdev : t.dev = s.dev.join s.regions (fillOp i q.region q.txn.line q.txn.word) := by rw [ht]; rfl
  have hself : t.slots[i] = some (q.fill w) := by rw [ht]; exact setSlot_slots_self s i _
  have hflight : t.ports[q.port].flight = some (.requester i) := by rw [ht, place_flight, if_pos rfl]
  rw [hdev, join_queue]
  refine h.slot_step i (fun j hj => ?_) (by rw [ht]; rfl) (by rw [hdev, join_places]) (fun k => ?_)
    (fun op hop => ?_) ?_ ?_
  · rw [ht]
    exact setSlot_slots_ne s hj _
  · by_cases hk : q.port = k
    · exact .inr (hk ▸ ⟨hu, by rw [hflight]; exact fun hp => nomatch hp⟩)
    · rw [ht, place_flight, if_neg hk]
      exact .inl rfl
  · rw [List.mem_append, List.mem_singleton, or_iff_left]
    rintro rfl
    exact hop rfl
  · exact placesDiffer_append_singleton.mpr ⟨fun x hx he => hslot x hx (place_eq_fill.mp he), h.places⟩
  · simp only [State.slotAgrees, hself]
    refine ⟨?_, fun _ hw => absurd hw List.not_mem_nil, List.nodup_nil, _,
      List.mem_append_right _ List.mem_cons_self, rfl, rfl, rfl⟩
    rintro _ ⟨⟩
    exact ⟨rfl, hflight⟩

/-- A transaction joins a fill as its requester or at the tail of its waiters (R55). -/
theorem State.Agrees.joinFill (h : s.Agrees Q D) (hu : s.unheld q.port) (hf : s.slots[i] = some f) (t : State)
    (ht : t = (s.setSlot i (some (f.join q))).place q.port (f.joinPlacement q i)) : t.Agrees Q D := by
  have hslot := h.slots i
  simp only [State.slotAgrees, hf] at hslot
  obtain ⟨hreq, hwait, hnodup, hop⟩ := hslot
  have hself : t.slots[i] = some (f.join q) := by rw [ht]; exact setSlot_slots_self s i _
  have hflight : t.ports[q.port].flight = some (f.joinPlacement q i) := by rw [ht, place_flight, if_pos rfl]
  have hother {k : Port} (hk : f.holds k) : k ≠ q.port ∧ t.ports[k].flight = s.ports[k].flight := by
    have hne : q.port ≠ k := fun he => hu.2 i f hf (he ▸ hk)
    rw [ht, place_flight, if_neg hne]
    exact ⟨hne.symm, rfl⟩
  refine h.slot_step i (fun j hj => ?_) (by rw [ht]; rfl) (by rw [ht]; rfl) (fun k => ?_)
    (fun _ _ => Iff.rfl) h.places ?_
  · rw [ht]
    exact setSlot_slots_ne s hj _
  · by_cases hk : q.port = k
    · refine .inr (hk ▸ ⟨hu, ?_⟩)
      rw [hflight, Fill.joinPlacement]
      split <;> exact fun hp => nomatch hp
    · rw [ht, place_flight, if_neg hk]
      exact .inl rfl
  · simp only [State.slotAgrees, hself]
    by_cases hvacant : f.allocPort = q.port ∧ f.requester = none
    · rw [Fill.joinPlacement, if_pos hvacant] at hflight
      rw [Fill.join, if_pos hvacant]
      refine ⟨?_, fun x hx => ?_, hnodup, hop⟩
      · rintro _ ⟨⟩
        exact ⟨hvacant.1.symm, hflight⟩
      · rw [(hother (Fill.holds_waiter hx)).2]
        exact hwait x hx
    · rw [Fill.joinPlacement, if_neg hvacant] at hflight
      rw [Fill.join, if_neg hvacant]
      have halloc : q.port ≠ f.allocPort := by
        intro he
        cases hr : f.requester with
        | none => exact hvacant ⟨he.symm, hr⟩
        | some x =>
          exact (hother (Fill.holds_requester (by rw [hr]; rfl))).1 ((hreq x (by rw [hr]; rfl)).1.trans he.symm)
      refine ⟨fun x hx => ?_, fun x hx => ?_, ?_, hop⟩
      · rw [(hother (Fill.holds_requester hx)).2]
        exact hreq x hx
      · rcases List.mem_append.mp hx with hx | hx
        · rw [(hother (Fill.holds_waiter hx)).2]
          exact hwait x hx
        · obtain rfl := List.mem_singleton.mp hx
          exact ⟨halloc, hflight⟩
      · rw [List.map_append, List.nodup_append_comm, List.map_singleton, List.singleton_append, List.nodup_cons]
        refine ⟨fun hm => ?_, hnodup⟩
        obtain ⟨x, hx, he⟩ := List.mem_map.mp hm
        exact (hother (Fill.holds_waiter hx)).1 he

/-- A fill that keeps its line, region and allocating port, and some of its transactions (R56, R57, R122, R140). -/
theorem State.Agrees.setSlot_sublist (h : s.Agrees Q D) (hf : s.slots[i] = some f) {f' : Fill}
    (hreq : ∀ q ∈ f'.requester, q ∈ f.requester) (hwait : f'.waiters.Sublist f.waiters)
    (hport : f'.allocPort = f.allocPort) (hregion : f'.region = f.region) (hline : f'.line = f.line) :
    (s.setSlot i (some f')).Agrees Q D := by
  have hslot := h.slots i
  simp only [State.slotAgrees, hf] at hslot
  obtain ⟨hr, hw, hnodup, hop⟩ := hslot
  refine h.slot_step i (fun j hj => setSlot_slots_ne s hj _) rfl rfl (fun _ => .inl rfl)
    (fun _ _ => Iff.rfl) h.places ?_
  simp only [State.slotAgrees, setSlot_slots_self, hport, hregion, hline]
  exact ⟨fun q hq => hr q (hreq q hq), fun q hq => hw q (hwait.subset hq), hnodup.sublist (hwait.map _), hop⟩

/-- A fill whose operation ends leaves its slot FREE, and its transactions to be answered (R58, R65). -/
theorem State.Agrees.endFill {op : Operation} (h : s.Agrees (op :: Q) D) (hk : op.kind = .fill i) :
    ∃ f, s.slots[i] = some f ∧ (s.setSlot i none).Agrees Q D ∧ (∀ q ∈ f.served, (s.setSlot i none).unheld q.port) ∧
      (f.served.map (·.port)).Nodup := by
  have hdiffer := placesDiffer_cons.mp h.places
  have hslot := h.slots i
  cases hs : s.slots[i] with
  | none =>
    simp only [State.slotAgrees, hs] at hslot
    exact absurd hk (hslot op List.mem_cons_self)
  | some f =>
    have hheld (q : Request) (hq : q ∈ f.served) := hslot.flight hs ⟨q, hq, rfl⟩
    simp only [State.slotAgrees, hs] at hslot
    obtain ⟨hreq, hwait, hnodup, -⟩ := hslot
    refine ⟨f, rfl, ?_, fun q hq => ⟨?_, fun j g hg hj => ?_⟩, ?_⟩
    · refine h.slot_step i (fun j hj => setSlot_slots_ne s hj _) rfl rfl (fun _ => .inl rfl)
        (fun x hx => ?_) hdiffer.2 ?_
      · rw [List.mem_cons, or_iff_right]
        rintro rfl
        exact hx hk
      · simp only [State.slotAgrees, setSlot_slots_self]
        exact fun x hx hxk => hdiffer.1 x hx ((place_eq_fill.mpr hxk).trans (place_eq_fill.mpr hk).symm)
    · show s.ports[q.port].flight ≠ some .portOp
      rcases hheld q hq with hp | hp <;> rw [hp] <;> exact fun hn => nomatch hn
    · by_cases hji : j = i
      · rw [hji, setSlot_slots_self] at hg
        cases hg
      · rw [setSlot_slots_ne s hji] at hg
        have hflight := (h.slots j).flight hg hj
        rcases hheld q hq with hp | hp <;> simp [-Fin.getElem_fin, hp, Ne.symm hji] at hflight
    · rw [Fill.served, List.map_append, List.nodup_append]
      refine ⟨?_, hnodup, fun a ha b hb => ?_⟩
      · cases f.requester <;> simp
      · obtain ⟨x, hx, rfl⟩ := List.mem_map.mp ha
        obtain ⟨y, hy, rfl⟩ := List.mem_map.mp hb
        rw [(hreq x (Option.mem_toList.mp hx)).1]
        exact (hwait y hy).1.symm

end Fills

end Sys2Proof.Machine

namespace Sys2Proof.Machine

/-! ### Rules for the drain buffer (R69 to R75) -/

section Drains

variable {s : State} {Q : List Operation} {D : List Port} {p : DrainPlace} {op : Operation}

/-- The lowest place that no entry has is free while the buffer has room. -/
theorem freeDrainPlace_ne {drains : List DrainEntry} (room : drains.length < 2) :
    ∀ e ∈ drains, e.place ≠ freeDrainPlace drains := by
  match drains, room with
  | [], _ => simp
  | [e], _ =>
    have hp : ∀ p : DrainPlace, p ≠ if p = 0 then 1 else 0 := by decide
    simpa [freeDrainPlace] using hp e.place

/-- A drain write on the queue is that of the QUEUED entry at its place. -/
theorem drain_of_op {s : State} (h : s.drainsQueued) (hop : op ∈ s.dev.queue) (hk : op.kind = .drain p) :
    ∃ e ∈ s.drains, e.held = false ∧ e.op = op ∧ e.place = p := by
  obtain ⟨e, he, hh, rfl⟩ := h.2.2 op hop p hk
  exact ⟨e, he, hh, rfl, OpKind.drain.inj hk⟩

/-- A QUEUED entry is made and its write joins the queue (R70). -/
theorem State.Agrees.addDrain (h : s.Agrees s.dev.queue D) (room : s.drains.length < 2) (kind : DrainKind)
    (l : LineAddr) (x : Held) : (s.addDrain kind l x).Agrees (s.addDrain kind l x).dev.queue D := by
  have hfree := freeDrainPlace_ne room
  obtain ⟨hnodup, hqueued, hheld⟩ := h.drains
  rw [State.addDrain_dev, join_queue]
  refine h.drain_step rfl (by rw [State.addDrain_dev, join_places]) (fun _ => rfl) (fun y hy => ?_) ?_ ⟨?_, ?_, ?_⟩
  · rw [List.mem_append, List.mem_singleton, or_iff_left]
    rintro rfl
    exact hy _ rfl
  · refine placesDiffer_append_singleton.mpr ⟨fun y hy he => ?_, h.places⟩
    obtain ⟨e, hem, -, -, hp⟩ := drain_of_op h.drains hy (place_eq_drain.mp he)
    exact hfree e hem hp
  · rw [show ((s.addDrain kind l x).owing _).drains = s.drains ++ [s.newDrain kind l x] from rfl, List.map_append,
      List.nodup_append_comm, List.map_singleton, List.singleton_append, List.nodup_cons]
    refine ⟨fun hm => ?_, hnodup⟩
    obtain ⟨e, hem, hp⟩ := List.mem_map.mp hm
    exact hfree e hem hp
  · intro e he hh
    rcases List.mem_append.mp he with he | he
    · exact List.mem_append_left _ (hqueued e he hh)
    · rw [List.mem_singleton.mp he]
      exact List.mem_append_right _ List.mem_cons_self
  · intro y hy p hp
    rcases List.mem_append.mp hy with hy | hy
    · obtain ⟨e, he, hh, heq⟩ := hheld y hy p hp
      exact ⟨e, List.mem_append_left _ he, hh, heq⟩
    · exact ⟨_, List.mem_append_right _ List.mem_cons_self, rfl, (List.mem_singleton.mp hy).symm⟩

/-- The operations beside a drain write that ends: no other is at its place. -/
theorem State.Agrees.drain_rest (h : s.Agrees (op :: Q) D) (hk : op.kind = .drain p) :
    (∀ x ∈ Q, x.kind ≠ .drain p) ∧ ∀ x, (∀ p, x.kind ≠ .drain p) → (x ∈ Q ↔ x ∈ op :: Q) := by
  refine ⟨fun x hx he => ?_, fun x hx => ?_⟩
  · exact (placesDiffer_cons.mp h.places).1 x hx ((place_eq_drain.mpr he).trans (place_eq_drain.mpr hk).symm)
  · rw [List.mem_cons, or_iff_right]
    rintro rfl
    exact hx p hk

/-- A drain write that ends takes its entry out of the buffer (R72 to R74). -/
theorem State.Agrees.dropDrain (h : s.Agrees (op :: Q) D) (hk : op.kind = .drain p) : (s.dropDrain p).Agrees Q D := by
  obtain ⟨hrest, hops⟩ := h.drain_rest hk
  obtain ⟨hnodup, hqueued, hheld⟩ := h.drains
  refine h.drain_step rfl rfl (fun _ => rfl) hops (placesDiffer_cons.mp h.places).2 ⟨?_, fun e he hh => ?_, ?_⟩
  · exact hnodup.sublist (List.filter_sublist.map _)
  · obtain ⟨hem, hne⟩ := List.mem_filter.mp he
    refine (List.mem_cons.mp (hqueued e hem hh)).resolve_left fun heq => ?_
    have hp : e.place = p := OpKind.drain.inj ((congrArg Operation.kind heq).trans hk)
    simp [hp] at hne
  · intro x hx p' hp'
    obtain ⟨e, he, hh, rfl⟩ := hheld x (List.mem_cons_of_mem _ hx) p' hp'
    refine ⟨e, List.mem_filter.mpr ⟨he, ?_⟩, hh, rfl⟩
    rw [bne_iff_ne]
    exact fun heq => hrest e.op hx (congrArg OpKind.drain heq)

/-- A drain write that is removed leaves its entry HELD (R74, R75). -/
theorem State.Agrees.holdDrain (h : s.Agrees (op :: Q) D) (hk : op.kind = .drain p) : (s.holdDrain p).Agrees Q D := by
  obtain ⟨hrest, hops⟩ := h.drain_rest hk
  obtain ⟨hnodup, hqueued, hheld⟩ := h.drains
  refine h.drain_step rfl rfl (fun _ => rfl) hops (placesDiffer_cons.mp h.places).2 ⟨?_, fun e' he' hh => ?_, ?_⟩
  · rw [show ((s.holdDrain p).owing Q).drains = s.drains.map fun e => if e.place = p then { e with held := true } else e
      from rfl, List.map_map]
    rw [show (DrainEntry.place ∘ fun e => if e.place = p then { e with held := true } else e) = DrainEntry.place from
      funext fun e => by simp only [Function.comp_apply]; split <;> rfl]
    exact hnodup
  · obtain ⟨e, hem, rfl⟩ := List.mem_map.mp he'
    split at hh
    · cases hh
    · next hne =>
      rw [if_neg hne]
      refine (List.mem_cons.mp (hqueued e hem hh)).resolve_left fun heq => hne ?_
      exact OpKind.drain.inj ((congrArg Operation.kind heq).trans hk)
  · intro x hx p' hp'
    obtain ⟨e, he, hh, rfl⟩ := hheld x (List.mem_cons_of_mem _ hx) p' hp'
    have hne : e.place ≠ p := fun heq => hrest e.op hx (congrArg OpKind.drain heq)
    exact ⟨e, List.mem_map.mpr ⟨e, he, if_neg hne⟩, hh, rfl⟩

/-- An entry of region `r` as the region returns: QUEUED, with the same write (R75). -/
def DrainEntry.requeue (r : RegionId) (e : DrainEntry) : DrainEntry :=
  if e.region = r then { e with held := false } else e

theorem DrainEntry.requeue_place (r : RegionId) (e : DrainEntry) : (e.requeue r).place = e.place := by
  unfold DrainEntry.requeue
  split <;> rfl

theorem DrainEntry.requeue_op (r : RegionId) (e : DrainEntry) : (e.requeue r).op = e.op := by
  unfold DrainEntry.requeue
  split <;> rfl

theorem DrainEntry.requeue_held {r : RegionId} {e : DrainEntry} :
    (e.requeue r).held = false ↔ e.held = false ∨ e.region = r := by
  unfold DrainEntry.requeue
  split <;> simp [*]

/-- Operations that join the tail one after the other leave every other block. -/
theorem foldl_enqueue_field {α : Type} (field : State → α) (hf : ∀ s op, field (State.enqueue s op) = field s)
    (s : State) (es : List DrainEntry) : field (es.foldl (fun s e => s.enqueue e.op) s) = field s :=
  List.foldlRecOn (motive := fun u => field u = field s) es _ rfl fun _ hu e _ => (hf _ e.op).trans hu

theorem foldl_enqueue_queue (s : State) (es : List DrainEntry) :
    (es.foldl (fun s e => s.enqueue e.op) s).dev.queue = s.dev.queue ++ es.map DrainEntry.op := by
  induction es generalizing s with
  | nil => exact (List.append_nil _).symm
  | cons e es ih =>
    rw [List.foldl_cons, ih, State.enqueue_dev, join_queue, List.append_assoc]
    rfl

theorem requeueDrains_queue (s : State) (r : RegionId) :
    (s.requeueDrains r).dev.queue = s.dev.queue ++ (s.heldDrains r).map DrainEntry.op :=
  foldl_enqueue_queue _ _

theorem requeueDrains_drains (s : State) (r : RegionId) :
    (s.requeueDrains r).drains = s.drains.map (DrainEntry.requeue r) :=
  foldl_enqueue_field State.drains (fun _ _ => rfl) _ _

theorem requeueDrains_slots (s : State) (r : RegionId) : (s.requeueDrains r).slots = s.slots :=
  foldl_enqueue_field State.slots (fun _ _ => rfl) _ _

theorem requeueDrains_ports (s : State) (r : RegionId) : (s.requeueDrains r).ports = s.ports :=
  foldl_enqueue_field State.ports (fun _ _ => rfl) _ _

theorem requeueDrains_regions (s : State) (r : RegionId) : (s.requeueDrains r).regions = s.regions :=
  foldl_enqueue_field State.regions (fun _ _ => rfl) _ _

theorem requeueDrains_places (s : State) (r : RegionId) : (s.requeueDrains r).dev.places = s.dev.places :=
  foldl_enqueue_field (fun s => s.dev.places) (fun _ _ => join_places _ _ _) _ _

theorem requeueDrains_headed {r : RegionId} (h : s.dev.headed) : (s.requeueDrains r).dev.headed :=
  List.foldlRecOn (motive := fun u : State => u.dev.headed) (s.heldDrains r) _ h fun _ hu _ _ => hu.join _ _

theorem mem_heldDrains {r : RegionId} {e : DrainEntry} :
    e ∈ s.heldDrains r ↔ e ∈ s.drains ∧ e.held = true ∧ e.region = r := by
  simp [State.heldDrains]

/-- No write of a HELD entry is on the queue. -/
theorem State.Agrees.held_not_queued (h : s.Agrees s.dev.queue D) {e : DrainEntry} (he : e ∈ s.drains)
    (hh : e.held = true) : ∀ x ∈ s.dev.queue, x.kind ≠ .drain e.place := by
  intro x hx hk
  obtain ⟨e', he', hh', -, hp⟩ := drain_of_op h.drains hx hk
  rw [List.inj_on_of_nodup_map h.drains.1 he' he hp, hh] at hh'
  cases hh'

/-- The HELD entries of a region become QUEUED as it returns (R75). -/
theorem State.Agrees.requeueDrains (h : s.Agrees s.dev.queue D) (r : RegionId) :
    (s.requeueDrains r).Agrees (s.requeueDrains r).dev.queue D := by
  obtain ⟨hnodup, hqueued, hheld⟩ := h.drains
  refine h.drain_step (requeueDrains_slots s r) (requeueDrains_places s r) (fun k => by rw [requeueDrains_ports])
    (fun x hx => ?_) ?_ ⟨?_, fun e' he' hh => ?_, fun x hx p hp => ?_⟩
  · rw [requeueDrains_queue, List.mem_append, or_iff_left]
    intro hm
    obtain ⟨e, -, rfl⟩ := List.mem_map.mp hm
    exact hx e.place rfl
  · rw [requeueDrains_queue, placesDiffer, List.map_append, List.map_map, List.nodup_append]
    refine ⟨h.places, ?_, fun a ha b hb => ?_⟩
    · have hplaces : ((s.heldDrains r).map DrainEntry.place).Nodup := hnodup.sublist (List.filter_sublist.map _)
      rw [show Operation.place ∘ DrainEntry.op = QueuePlace.drain ∘ DrainEntry.place from rfl, ← List.map_map]
      exact hplaces.map fun _ _ => QueuePlace.drain.inj
    · obtain ⟨x, hx, rfl⟩ := List.mem_map.mp ha
      obtain ⟨e, he, rfl⟩ := List.mem_map.mp hb
      obtain ⟨hem, hh, -⟩ := mem_heldDrains.mp he
      exact fun heq => h.held_not_queued hem hh x hx (place_eq_drain.mp heq)
  · change ((s.requeueDrains r).drains.map DrainEntry.place).Nodup
    rw [requeueDrains_drains, List.map_map,
      show DrainEntry.place ∘ DrainEntry.requeue r = DrainEntry.place from funext (DrainEntry.requeue_place r)]
    exact hnodup
  · change e' ∈ (s.requeueDrains r).drains at he'
    change e'.op ∈ (s.requeueDrains r).dev.queue
    rw [requeueDrains_drains] at he'
    obtain ⟨e, he, rfl⟩ := List.mem_map.mp he'
    rw [DrainEntry.requeue_op, requeueDrains_queue]
    cases hhe : e.held with
    | false => exact List.mem_append_left _ (hqueued e he hhe)
    | true =>
      have hr : e.region = r := (DrainEntry.requeue_held.mp hh).resolve_left (by simp [hhe])
      exact List.mem_append_right _ (List.mem_map_of_mem (mem_heldDrains.mpr ⟨he, hhe, hr⟩))
  · have hback (e : DrainEntry) (he : e ∈ s.drains) (hh : e.held = false ∨ e.region = r) :
        ∃ e' ∈ (s.requeueDrains r).drains, e'.held = false ∧ e'.op = e.op := by
      rw [requeueDrains_drains]
      exact ⟨_, List.mem_map_of_mem he, DrainEntry.requeue_held.mpr hh, DrainEntry.requeue_op r e⟩
    change x ∈ (s.requeueDrains r).dev.queue at hx
    rw [requeueDrains_queue] at hx
    rcases List.mem_append.mp hx with hx | hx
    · obtain ⟨e, he, hh, rfl⟩ := hheld x hx p hp
      exact hback e he (.inl hh)
    · obtain ⟨e, he, rfl⟩ := List.mem_map.mp hx
      obtain ⟨hem, -, hr⟩ := mem_heldDrains.mp he
      exact hback e hem (.inr hr)

end Drains

/-! ### Rules for probes (R157, R159) -/

section Probes

variable {s t : State} {Q : List Operation} {D : List Port} {op : Operation}

theorem State.Agrees.endProbe (h : s.Agrees (op :: Q) D) (hk : op.kind = .probe) : s.Agrees Q D := by
  refine h.probe_step (fun x hx => ?_) (placesDiffer_cons.mp h.places).2
  rw [List.mem_cons, or_iff_right]
  rintro rfl
  exact hx hk

theorem State.Agrees.addProbe (h : s.Agrees Q D) (hk : op.kind = .probe)
    (hfree : ∀ x ∈ Q, x.kind = .probe → x.region ≠ op.region) : s.Agrees (Q ++ [op]) D := by
  refine h.probe_step (fun x hx => ?_) (placesDiffer_append_singleton.mpr ⟨fun x hx he => ?_, h.places⟩)
  · rw [List.mem_append, List.mem_singleton, or_iff_left]
    rintro rfl
    exact hx hk
  · obtain ⟨hxk, hxr⟩ := place_eq_probe.mp (he.trans (place_eq_probe.mpr ⟨hk, rfl⟩))
    exact hfree x hx hxk hxr

/-- The condition on probes depends on the regions' health and timers and on the probes queued. -/
theorem probesQueued_congr (h : s.probesQueued)
    (hregions : ∀ r : RegionId, t.regions[r].health = s.regions[r].health ∧
      (t.regions[r].probeTimer = none ↔ s.regions[r].probeTimer = none))
    (hops : ∀ x, x.kind = .probe → (x ∈ t.dev.queue ↔ x ∈ s.dev.queue)) : t.probesQueued := by
  obtain ⟨hqueued, hregion⟩ := h
  refine ⟨fun x hx hk => ?_, fun r => ⟨fun ht => ?_, fun ho => ?_⟩⟩
  · obtain ⟨hoff, htimer⟩ := hqueued x ((hops x hk).mp hx) hk
    exact ⟨(hregions x.region).1.trans hoff, (hregions x.region).2.mpr htimer⟩
  · rw [(hregions r).1]
    exact (hregion r).1 fun hn => ht ((hregions r).2.mpr hn)
  · obtain ht | ⟨x, hx, hk, hr⟩ := (hregion r).2 ((hregions r).1 ▸ ho)
    · exact .inl fun hn => ht ((hregions r).2.mp hn)
    · exact .inr ⟨x, (hops x hk).mpr hx, hk, hr⟩

end Probes

end Sys2Proof.Machine

/-! ### What the hand-on of a result leaves (R143, R144) -/

namespace Sys2Proof.Machine

/-- The region table and the probes on the queue are in `t` as they are in `s`, and a transfer of the head is presented
if one was. -/
structure State.Keeps (s t : State) : Prop where
  regions : t.regions = s.regions
  probes : ∀ x : Operation, x.kind = .probe → (x ∈ t.dev.queue ↔ x ∈ s.dev.queue)
  headed : s.dev.headed → t.dev.headed

/-- The result of an operation has been handed on: what is left agrees with the operations still owed. -/
structure State.Hands (s : State) (P : List Operation) (D : List Port) (t : State) : Prop extends s.Keeps t where
  agrees : t.Agrees (P ++ t.dev.queue) D

section Keeps

variable {s t u : State}

theorem State.Keeps.of_dev (hregions : t.regions = s.regions) (hdev : t.dev = s.dev) : s.Keeps t :=
  ⟨hregions, fun _ _ => by rw [hdev], fun h => hdev ▸ h⟩

theorem State.Keeps.refl (s : State) : s.Keeps s := .of_dev rfl rfl

theorem State.Keeps.trans (h : s.Keeps t) (g : t.Keeps u) : s.Keeps u where
  regions := g.regions.trans h.regions
  probes x hx := (g.probes x hx).trans (h.probes x hx)
  headed hs := g.headed (h.headed hs)

theorem State.SameWork.keeps (f : s.SameWork t) : s.Keeps t := .of_dev f.regions f.dev

/-- An operation that is not a probe joins the tail. -/
theorem State.Keeps.join {op : Operation} (hop : op.kind ≠ .probe) (hregions : t.regions = s.regions)
    {places : Vector Place 4} (hdev : t.dev = ({ s.dev with places := places } : DevicePort).join s.regions op) :
    s.Keeps t where
  regions := hregions
  probes x hx := by
    rw [hdev, join_queue, List.mem_append, List.mem_singleton, or_iff_left]
    rintro rfl
    exact hop hx
  headed h := hdev ▸ (h.withPlaces places).join s.regions op

theorem probe_port {op : Operation} (h : op.kind = .probe) : op.port? = none := by rw [Operation.port?, h]

theorem kind_ne_probe {op : Operation} {k : Port} (h : op.port? = some k) : op.kind ≠ .probe :=
  fun hp => nomatch h.symm.trans (probe_port hp)

theorem makePortOp_keeps (s : State) (q : Request) (wt : Bool) : s.Keeps (s.makePortOp q wt) := by
  have hprobe : (q.portOp wt).kind ≠ .probe := kind_ne_probe (portOp_port q wt).1
  cases hp : s.dev.places[q.port] with
  | free | active =>
    exact .join hprobe rfl (by simp only [State.makePortOp_dev, DevicePort.submit, hp]; rfl)
  | orphaned parked =>
    have hdev : (s.makePortOp q wt).dev =
        { s.dev with places := setAt s.dev.places q.port (.orphaned (some (q.portOp wt))) } := by
      simp only [State.makePortOp_dev, DevicePort.submit, hp]
    exact ⟨rfl, fun _ _ => by rw [hdev], fun h => hdev ▸ h.withPlaces _⟩

theorem releasePlace_keeps {k : Port} (h : ∀ x, s.dev.places[k] = .orphaned (some x) → x.port? = some k) :
    s.Keeps (s.releasePlace k) := by
  cases hp : s.dev.places[k].parked with
  | none =>
    have hdev : (s.releasePlace k).dev = { s.dev with places := setAt s.dev.places k .free } := release_unparked _ hp
    exact ⟨rfl, fun _ _ => by rw [hdev], fun h => hdev ▸ h.withPlaces _⟩
  | some x =>
    have hx : s.dev.places[k] = .orphaned (some x) := by
      cases hpl : s.dev.places[k] with
      | free | active => rw [hpl] at hp; cases hp
      | orphaned parked => rw [hpl] at hp; exact congrArg Place.orphaned hp
    exact .join (kind_ne_probe (h x hx)) rfl (release_parked _ hx)

theorem respond_keeps (s : State) (k : Port) (r : Response) : s.Keeps (s.respond k r) := .of_dev rfl rfl

end Keeps

/-! ### Settled transactions -/

section Settles

variable {s t : State} {P : List Operation} {D : List Port} {k : Port}

theorem State.Settles.keeps (h : s.Settles k t) : s.Keeps t := by
  cases h with
  | left same => exact same.keeps
  | answered same r => exact same.keeps.trans (respond_keeps _ k r)
  | portOp same q wt _ => exact same.keeps.trans (makePortOp_keeps _ q wt)

/-- A transaction that is not held is settled. -/
theorem State.Agrees.settles (h : s.Agrees (P ++ s.dev.queue) D) (hu : s.unheld k) (hs : s.Settles k t) :
    t.Agrees (P ++ t.dev.queue) D := by
  cases hs with
  | left same => exact same.dev ▸ h.same same.claims
  | answered same r => exact same.dev ▸ (h.same same.claims).respond (hu.same same.claims) r
  | portOp same q wt port =>
    subst port
    exact State.Agrees.makePortOp (same.dev.symm ▸ h.same same.claims) (hu.same same.claims) wt

/-- Settling one port's transaction leaves another that is not held so. -/
theorem State.Settles.unheld {j : Port} (h : s.Settles k t) (hne : k ≠ j) (hu : s.unheld j) : t.unheld j := by
  cases h with
  | left same => exact hu.same same.claims
  | answered same r => exact (hu.same same.claims).respond k r
  | portOp same q wt port =>
    obtain ⟨hflight, hslots⟩ := hu.same same.claims
    refine ⟨?_, hslots⟩
    rw [State.makePortOp_ports, setAt_getElem_ne _ (port ▸ hne)]
    exact hflight

theorem State.SameWork.setSlot (h : s.SameWork t) (i : SlotId) (f : Option Fill) :
    (s.setSlot i f).SameWork (t.setSlot i f) :=
  ⟨⟨h.ports, h.urgency, h.resTime, h.noticeTime⟩, congrArg (setAt · i f) h.slots, h.drains, h.regions, h.dev⟩

/-- A settled transaction has nothing to do with the slots. -/
theorem State.Settles.setSlot (h : s.Settles k t) (i : SlotId) (f : Option Fill) :
    (s.setSlot i f).Settles k (t.setSlot i f) := by
  cases h with
  | left same => exact .left (same.setSlot i f)
  | answered same r => exact .answered (same.setSlot i f) r
  | portOp same q wt port => exact .portOp (same.setSlot i f) q wt port

/-- The transactions of a slot that becomes FREE are settled one after the other (R59, R64, R65). -/
theorem settle_all {f : State → Request → State} (hf : ∀ (s : State) (q : Request), s.Settles q.port (f s q))
    (i : SlotId) (qs : List Request) (h : (s.setSlot i none).Agrees (P ++ s.dev.queue) D)
    (hu : ∀ q ∈ qs, (s.setSlot i none).unheld q.port) (hports : (qs.map (·.port)).Nodup) :
    s.Hands P D ((qs.foldl f s).setSlot i none) := by
  induction qs generalizing s with
  | nil => exact { State.Keeps.of_dev rfl rfl with agrees := h }
  | cons q qs ih =>
    have hs := (hf s q).setSlot i none
    rw [List.map_cons, List.nodup_cons] at hports
    have hrest : ∀ x ∈ qs, ((f s q).setSlot i none).unheld x.port := fun x hx =>
      hs.unheld (fun he => hports.1 (he ▸ List.mem_map_of_mem (f := (·.port)) hx)) (hu x (List.mem_cons_of_mem _ hx))
    have hagrees := State.Agrees.settles h (hu q List.mem_cons_self) hs
    have hlast := ih hagrees hrest hports.2
    exact { (hf s q).keeps.trans hlast.toKeeps with agrees := hlast.agrees }

end Settles

/-! ### Ends of operations that are not probes -/

section Ends

variable {s : State} {P : List Operation} {D : List Port} {op : Operation}

theorem State.Hands.same {t u : State} (h : s.Hands P D t) (f : t.SameWork u) : s.Hands P D u :=
  { h.toKeeps.trans f.keeps with agrees := f.dev.symm ▸ h.agrees.same f.claims }

/-- Fill failure (R65). -/
theorem State.Agrees.failFill {i : SlotId} (h : s.Agrees (op :: (P ++ s.dev.queue)) D) (hk : op.kind = .fill i)
    (c : FaultCause) : s.Hands P D (s.failFill i c) := by
  obtain ⟨f, hf, hfree, hserved, hports⟩ := h.endFill hk
  simp only [State.failFill, hf]
  have hanswered : ∀ (u : State) (q : Request), u.Settles q.port (u.respond q.port (.fault c)) :=
    fun u _ => .answered (.refl u) _
  exact (settle_all hanswered i f.served hfree hserved hports).same (.setSlot (.invalidate (.refl _) _ _) i none)

/-- Fill completion (R58, R59, R64). -/
theorem State.Agrees.completeFill {i : SlotId} (h : s.Agrees (op :: (P ++ s.dev.queue)) D) (hk : op.kind = .fill i) :
    s.Hands P D (s.completeFill i) := by
  obtain ⟨f, hf, hfree, hserved, hports⟩ := h.endFill hk
  simp only [State.completeFill, hf]
  split
  · have hanswered : ∀ (u : State) (q : Request),
        u.Settles q.port (u.respond q.port (q.taintedAnswer (arrange f.critical f.received))) :=
      fun u _ => .answered (.refl u) _
    exact (settle_all hanswered i f.served hfree hserved hports).same (.setSlot (.invalidate (.refl _) _ _) i none)
  · have hentry : s.SameWork (s.setEntry (setOf f.line) f.way (.clean f.installed)) := .setEntry (.refl s) _ _ _
    have hclaims := (hentry.setSlot i none).claims
    have hserve : ∀ (u : State) (q : Request), u.Settles q.port (u.serve q f.way) := fun u q => serve_settles u q f.way
    have hands := settle_all (s := s.setEntry (setOf f.line) f.way (.clean f.installed)) hserve i f.served
      (hfree.same hclaims) (fun q hq => (hserved q hq).same hclaims) hports
    exact { hentry.keeps.trans hands.toKeeps with agrees := hands.agrees }

/-- A drain entry leaves the buffer (R72 to R74). -/
theorem State.Agrees.dropDrain_hands {p : DrainPlace} (h : s.Agrees (op :: (P ++ s.dev.queue)) D)
    (hk : op.kind = .drain p) : s.Hands P D (s.dropDrain p) :=
  { State.Keeps.of_dev rfl rfl with agrees := h.dropDrain hk }

theorem State.Agrees.holdDrain_hands {p : DrainPlace} (h : s.Agrees (op :: (P ++ s.dev.queue)) D)
    (hk : op.kind = .drain p) : s.Hands P D (s.holdDrain p) :=
  { State.Keeps.of_dev rfl rfl with agrees := h.holdDrain hk }

theorem State.Agrees.loseDrain {p : DrainPlace} (h : s.Agrees (op :: (P ++ s.dev.queue)) D)
    (hk : op.kind = .drain p) : s.Hands P D (s.loseDrain p) := by
  obtain ⟨e, he, -, -, hp⟩ : ∃ e ∈ s.drains, e.held = false ∧ e.op = op ∧ e.place = p := by
    obtain ⟨e, he, hh, heq⟩ := h.drains.2.2 op List.mem_cons_self p hk
    exact ⟨e, he, hh, heq, OpKind.drain.inj ((congrArg Operation.kind heq).trans hk)⟩
  unfold State.loseDrain
  split
  · next hnone =>
    have := List.find?_eq_none.mp hnone e he
    simp [hp] at this
  · have hrecord (x : Event) : s.SameWork (s.record x) := .record (.refl s) x
    exact { State.Keeps.of_dev rfl rfl with agrees := (h.same (hrecord _).claims).dropDrain hk }

/-- The parked operation of a place is its port's own (R149). -/
theorem State.Agrees.parked_port {Q : List Operation} {k : Port} {x : Operation} (h : s.Agrees Q D)
    (hx : s.dev.places[k] = .orphaned (some x)) : x.port? = some k := by
  have hp := h.ports k
  simp only [State.portAgrees, hx] at hp
  obtain ⟨-, -, -, hxk, -⟩ := hp
  exact hxk

theorem answerOwner_dev (s : State) (op : Operation) (r : Response) : (s.answerOwner op r).dev = s.dev := by
  unfold State.answerOwner
  split <;> rfl

theorem answerOwner_regions (s : State) (op : Operation) (r : Response) : (s.answerOwner op r).regions = s.regions := by
  unfold State.answerOwner
  split <;> rfl

/-- A port operation ends with an answer to its owner (R146, R148, R149). -/
theorem State.Agrees.answerOwner {k : Port} (h : s.Agrees (op :: (P ++ s.dev.queue)) D) (hk : op.port? = some k)
    (r : Response) : s.Hands P D ((s.answerOwner op r).releasePlace k) := by
  have hrelease : (s.answerOwner op r).Keeps ((s.answerOwner op r).releasePlace k) :=
    releasePlace_keeps fun x hx => h.parked_port (answerOwner_dev s op r ▸ hx)
  have hanswer : s.Keeps (s.answerOwner op r) := .of_dev (answerOwner_regions s op r) (answerOwner_dev s op r)
  exact { hanswer.trans hrelease with agrees := h.endPortOp hk r }

/-- A port operation fails (R147). -/
theorem State.Agrees.failPortOp {k : Port} (h : s.Agrees (op :: (P ++ s.dev.queue)) D) (hk : op.port? = some k)
    (c : FaultCause) (how : LostHow) : s.Hands P D ((s.failPortOp op c how).releasePlace k) := by
  refine (h.answerOwner hk (.fault c)).same ?_
  rw [State.failPortOp, recordLost_eq]
  exact ⟨⟨rfl, rfl, rfl, rfl⟩, rfl, rfl, rfl, rfl⟩

/-- A removed operation is handed on (R144). -/
theorem State.Agrees.handOn (h : s.Agrees (op :: (P ++ s.dev.queue)) D) : s.Hands P D (s.handOn op) := by
  cases hk : op.kind with
  | fill i =>
    simp only [State.handOn, hk]
    exact h.failFill hk _
  | drain p =>
    simp only [State.handOn, hk]
    exact h.holdDrain_hands hk
  | portRead k | portWrite k wt =>
    simp only [State.handOn, hk]
    exact h.failPortOp (by rw [Operation.port?, hk]) _ _
  | probe =>
    simp only [State.handOn, hk]
    exact { State.Keeps.refl s with agrees := h.endProbe hk }

/-- The removed operations are handed on one after the other. -/
theorem State.Agrees.handOn_all {ops : List Operation} (h : s.Agrees (ops ++ s.dev.queue) D) :
    s.Hands [] D (ops.foldl State.handOn s) := by
  induction ops generalizing s with
  | nil => exact { State.Keeps.refl s with agrees := h }
  | cons op ops ih =>
    have hop := State.Agrees.handOn h
    have hops := ih hop.agrees
    exact { hop.toKeeps.trans hops.toKeeps with agrees := hops.agrees }

/-- The write of a drain entry that timed out: it leaves the buffer with its entry, is held, or joins the tail (R74). -/
theorem State.Agrees.drainTimedOut {p : DrainPlace} (h : s.Agrees (op :: (P ++ s.dev.queue)) D)
    (hk : op.kind = .drain p) (crossed : Bool) : s.Hands P D (s.drainTimedOut op p crossed) := by
  unfold State.drainTimedOut
  split
  · exact h.dropDrain_hands hk
  · split
    · exact h.holdDrain_hands hk
    · have hkeeps : s.Keeps (s.enqueue op) :=
        .join (places := s.dev.places) (by rw [hk]; exact fun hp => nomatch hp) rfl rfl
      have hclaims : s.SameClaims (s.enqueue op) := ⟨rfl, rfl, join_places _ _ _, fun _ => rfl⟩
      have hperm : (op :: (P ++ s.dev.queue)).Perm (P ++ (s.enqueue op).dev.queue) := by
        rw [State.enqueue_dev, join_queue, ← List.append_assoc]
        exact (List.perm_append_singleton op _).symm
      exact { hkeeps with agrees := (h.same hclaims).perm hperm }

/-- An operation other than a probe ends by timeout (R74, R142, R147). -/
theorem State.Agrees.handTimeout (h : s.Agrees (op :: (P ++ s.dev.queue)) D) (hk : op.kind ≠ .probe) (crossed : Bool) :
    s.Hands P D (s.handTimeout op crossed) := by
  cases hop : op.kind with
  | fill i =>
    simp only [State.handTimeout, hop]
    exact h.failFill hop _
  | drain p =>
    simp only [State.handTimeout, hop]
    exact h.drainTimedOut hop _
  | portRead k | portWrite k wt =>
    simp only [State.handTimeout, hop]
    exact h.failPortOp (by rw [Operation.port?, hop]) _ _
  | probe => exact absurd hop hk

/-- An operation other than a probe ends by ERR (R65, R73, R147). -/
theorem State.Agrees.handError (h : s.Agrees (op :: (P ++ s.dev.queue)) D) (hk : op.kind ≠ .probe) :
    s.Hands P D (s.handError op) := by
  cases hop : op.kind with
  | fill i =>
    simp only [State.handError, hop]
    exact h.failFill hop _
  | drain p =>
    simp only [State.handError, hop]
    exact h.loseDrain hop
  | portRead k | portWrite k wt =>
    simp only [State.handError, hop]
    exact h.failPortOp (by rw [Operation.port?, hop]) _ _
  | probe => exact absurd hop hk

/-- An operation other than a probe ends with success (R58, R72, R146). -/
theorem State.Agrees.handSuccess (h : s.Agrees (op :: (P ++ s.dev.queue)) D) (hk : op.kind ≠ .probe)
    (kept : List Word) : s.Hands P D (s.handSuccess op kept) := by
  cases hop : op.kind with
  | fill i =>
    simp only [State.handSuccess, hop]
    exact h.completeFill hop
  | drain p =>
    simp only [State.handSuccess, hop]
    exact h.dropDrain_hands hop
  | portRead k | portWrite k wt =>
    simp only [State.handSuccess, hop]
    exact h.answerOwner (by rw [Operation.port?, hop]) _
  | probe => exact absurd hop hk

end Ends

end Sys2Proof.Machine

/-! ### Regions that depart and return (R144, R153, R157 to R163) -/

namespace Sys2Proof.Machine

/-- No probe of region `r` is on the queue, and the other regions have their probe timers RUNNING or their probes queued
as they should (R134, R157). -/
structure State.ProbesBeside (s : State) (r : RegionId) : Prop where
  absent : ∀ x ∈ s.dev.queue, x.kind = .probe → x.region ≠ r
  queued : ∀ x ∈ s.dev.queue, x.kind = .probe →
    s.regions[x.region].health = .offline ∧ s.regions[x.region].probeTimer = none
  others : ∀ j : RegionId, j ≠ r → (s.regions[j].probeTimer ≠ none → s.regions[j].health = .offline) ∧
    (s.regions[j].health = .offline →
      s.regions[j].probeTimer ≠ none ∨ ∃ op ∈ s.dev.queue, op.kind = .probe ∧ op.region = j)

section Probes

variable {s t : State} {r : RegionId} {Q : List Operation}

/-- A probe or the operations of a region leave the queue. -/
theorem State.ProbesBeside.of_removed (h : (s.owing Q).probesQueued) (hregions : t.regions = s.regions)
    (hops : ∀ x : Operation, x.kind = .probe → (x ∈ t.dev.queue ↔ x ∈ Q ∧ x.region ≠ r)) : t.ProbesBeside r where
  absent x hx hk := ((hops x hk).mp hx).2
  queued x hx hk := by
    rw [hregions]
    exact h.1 x ((hops x hk).mp hx).1 hk
  others j hj := by
    rw [hregions]
    refine ⟨(h.2 j).1, fun ho => ((h.2 j).2 ho).imp_right ?_⟩
    rintro ⟨x, hx, hk, rfl⟩
    exact ⟨x, (hops x hk).mpr ⟨hx, hj⟩, hk, rfl⟩

/-- A region without a probe on the queue has no part in what is asked of the probes there. -/
theorem State.ProbesBeside.of_absent (h : s.probesQueued) (hr : ∀ x ∈ s.dev.queue, x.kind = .probe → x.region ≠ r) :
    s.ProbesBeside r :=
  ⟨hr, h.1, fun j _ => h.2 j⟩

/-- What concerns region `r` alone leaves the probes of the others. -/
theorem State.ProbesBeside.keeps (h : s.ProbesBeside r) (hregions : ∀ j : RegionId, j ≠ r → t.regions[j] = s.regions[j])
    (hops : ∀ x : Operation, x.kind = .probe → (x ∈ t.dev.queue ↔ x ∈ s.dev.queue)) : t.ProbesBeside r where
  absent x hx hk := h.absent x ((hops x hk).mp hx) hk
  queued x hx hk := by
    have hs := (hops x hk).mp hx
    rw [hregions _ (h.absent x hs hk)]
    exact h.queued x hs hk
  others j hj := by
    rw [hregions j hj]
    refine ⟨(h.others j hj).1, fun ho => ((h.others j hj).2 ho).imp_right ?_⟩
    rintro ⟨x, hx, hk, hr⟩
    exact ⟨x, (hops x hk).mpr hx, hk, hr⟩

/-- Region `r` is OFFLINE with its probe timer RUNNING, or is not OFFLINE with the timer STOPPED. -/
theorem State.ProbesBeside.probesQueued (h : s.ProbesBeside r)
    (hr : s.regions[r].health = .offline ↔ s.regions[r].probeTimer ≠ none) : s.probesQueued := by
  refine ⟨h.queued, fun j => ?_⟩
  by_cases hj : j = r
  · subst hj
    exact ⟨hr.mpr, fun ho => .inl (hr.mp ho)⟩
  · exact h.others j hj

theorem setRegion_self (s : State) (r : RegionId) (g : Region) : (s.setRegion r g).regions[r] = g :=
  setAt_getElem_self _ r g

theorem setRegion_ne (s : State) {r j : RegionId} (h : j ≠ r) (g : Region) :
    (s.setRegion r g).regions[j] = s.regions[j] :=
  setAt_getElem_ne _ h.symm g

/-- The table entry of region `r` is written. -/
theorem State.ProbesBeside.setRegion (h : s.ProbesBeside r) {g : Region}
    (hg : g.health = .offline ↔ g.probeTimer ≠ none) : (s.setRegion r g).probesQueued := by
  refine State.ProbesBeside.probesQueued (r := r) (h.keeps (fun j hj => setRegion_ne s hj g) fun _ _ => Iff.rfl) ?_
  rw [setRegion_self]
  exact hg

/-- An operation of a region that is not OFFLINE is not its probe, nor one of a region whose timer is RUNNING. -/
theorem State.probesQueued.absent (h : s.probesQueued)
    (hr : s.regions[r].health ≠ .offline ∨ s.regions[r].probeTimer ≠ none) :
    ∀ x ∈ s.dev.queue, x.kind = .probe → x.region ≠ r := by
  rintro x hx hk rfl
  obtain ⟨hoff, htimer⟩ := h.1 x hx hk
  exact hr.elim (fun hn => hn hoff) fun hn => hn htimer

end Probes

/-! ### The work taken off a region that departs -/

/-- The ports whose parked operations are of region `r`. -/
def State.parkedPorts (s : State) (r : RegionId) : List Port := (s.dev.parkedOf r).filterMap Operation.owner

section Depart

variable {s t : State} {r : RegionId} {Q own : List Operation} {k : Port}

theorem mem_parkedOf {d : DevicePort} {x : Operation} :
    x ∈ d.parkedOf r ↔ (∃ k : Port, d.places[k] = .orphaned (some x)) ∧ x.region = r := by
  have hparked (p : Place) : p.parked = some x ↔ p = .orphaned (some x) := by cases p <;> simp [Place.parked]
  have hall (k : Port) : k ∈ allPorts := by revert k; decide
  simp [-Fin.getElem_fin, DevicePort.parkedOf, hparked, hall, Operation.ofRegion]

theorem parkedOf_owner (h : s.Agrees Q []) {x : Operation} (hx : s.dev.places[k] = .orphaned (some x)) :
    x.owner = some k := by
  have hp := h.ports k
  simp only [State.portAgrees, hx] at hp
  obtain ⟨-, -, -, -, ho⟩ := hp
  exact ho

theorem mem_parkedPorts (h : s.Agrees Q []) :
    k ∈ s.parkedPorts r ↔ ∃ x, s.dev.places[k] = .orphaned (some x) ∧ x.region = r := by
  rw [State.parkedPorts, List.mem_filterMap]
  constructor
  · rintro ⟨x, hx, hk⟩
    obtain ⟨⟨j, hj⟩, hr⟩ := mem_parkedOf.mp hx
    obtain rfl : j = k := Option.some.inj ((parkedOf_owner h hj).symm.trans hk)
    exact ⟨x, hj, hr⟩
  · rintro ⟨x, hx, hr⟩
    exact ⟨x, mem_parkedOf.mpr ⟨⟨k, hx⟩, hr⟩, parkedOf_owner h hx⟩

/-- A port has one parked operation at most. -/
theorem parkedPorts_nodup (h : s.Agrees Q []) (r : RegionId) : (s.parkedPorts r).Nodup := by
  have hports : allPorts.Nodup := by decide
  have hself (j k : Port) (x : Operation) (hx : s.dev.places[j].parked = some x) (hk : x.owner = some k) : j = k := by
    have hj : s.dev.places[j] = .orphaned (some x) := by
      cases hp : s.dev.places[j] with
      | free | active => rw [hp] at hx; cases hx
      | orphaned parked => rw [hp] at hx; exact congrArg Place.orphaned hx
    exact Option.some.inj ((parkedOf_owner h hj).symm.trans hk)
  rw [State.parkedPorts, DevicePort.parkedOf, List.filter_filterMap, List.filterMap_filterMap]
  refine hports.filterMap fun i j k hi hj => ?_
  obtain ⟨x, hx, hxk⟩ := Option.bind_eq_some_iff.mp hi
  obtain ⟨y, hy, hyk⟩ := Option.bind_eq_some_iff.mp hj
  exact (hself i k x (Option.filter_eq_some_iff.mp hx).1 hxk).trans
    (hself j k y (Option.filter_eq_some_iff.mp hy).1 hyk).symm

theorem stripRegion_place (s : State) (r : RegionId) (k : Port) :
    (s.stripRegion r).dev.places[k] = s.dev.places[k].unpark r := mapAll_getElem _ _ _

/-- The operations of a region are owed a result as they leave the queue and the places. -/
theorem State.Agrees.stripRegion (h : s.Agrees (own ++ s.dev.queue) []) (r : RegionId) :
    (s.stripRegion r).Agrees
      (own ++ (s.dev.queue.filter (Operation.ofRegion r) ++ (s.stripRegion r).dev.queue)) (s.parkedPorts r) := by
  have hperm : (own ++ s.dev.queue).Perm
      (own ++ (s.dev.queue.filter (Operation.ofRegion r) ++ (s.stripRegion r).dev.queue)) :=
    (List.filter_append_perm (Operation.ofRegion r) s.dev.queue).symm.append_left own
  have hops (x : Operation) : x ∈ own ++ (s.dev.queue.filter (Operation.ofRegion r) ++ (s.stripRegion r).dev.queue) ↔
      x ∈ own ++ s.dev.queue := hperm.mem_iff.symm
  refine ⟨h.places.perm hperm, fun i => (h.slots i).congr rfl (fun _ _ _ _ => rfl) fun x _ => hops x,
    drainsQueued_congr h.drains rfl fun x _ _ => hops x, fun k => ?_⟩
  by_cases hk : k ∈ s.parkedPorts r
  · obtain ⟨x, hx, hr⟩ := (mem_parkedPorts h).mp hk
    have hplace : (s.stripRegion r).dev.places[k] = .orphaned none := by
      rw [stripRegion_place, hx]
      simp [Place.unpark, Operation.ofRegion, hr]
    have hp := h.ports k
    simp only [State.portAgrees, hx] at hp
    obtain ⟨⟨y, hy, hyk, hyo⟩, hflight, -⟩ := hp
    simp only [State.portAgrees, hplace]
    exact ⟨⟨y, (hops y).mpr hy, hyk, hyo⟩, iff_of_true hflight hk⟩
  · have hplace : (s.stripRegion r).dev.places[k] = s.dev.places[k] := by
      rw [stripRegion_place]
      match hx : s.dev.places[k] with
      | .free | .active | .orphaned none => rfl
      | .orphaned (some x) =>
        have hr : x.region ≠ r := fun hr => hk ((mem_parkedPorts h).mpr ⟨x, hx, hr⟩)
        simp [Place.unpark, Operation.ofRegion, hr]
    exact (h.ports k).congr hplace Iff.rfl (iff_of_false hk List.not_mem_nil) fun x _ => hops x

/-- The parked operations are handed on one after the other (R149). -/
theorem State.Agrees.handOnParked_all {ops : List Operation} (h : s.Agrees Q (ops.filterMap Operation.owner))
    (hports : (ops.filterMap Operation.owner).Nodup) : (ops.foldl State.handOnParked s).Agrees Q [] := by
  induction ops generalizing s with
  | nil => exact h
  | cons x ops ih =>
    have hlost (u : State) : u.SameWork (u.recordLost x .offline) := by
      rw [recordLost_eq]
      exact .withEvents (.refl u) _
    have hstep : s.handOnParked x = (s.answerOwner x (.fault .offline)).recordLost x .offline := rfl
    rw [List.foldl_cons, hstep]
    cases ho : x.owner with
    | none =>
      rw [List.filterMap_cons_none ho] at h hports
      simp only [State.answerOwner, ho]
      exact ih (h.same (hlost s).claims) hports
    | some k =>
      rw [List.filterMap_cons_some ho] at h hports
      obtain ⟨hk, hrest⟩ := List.nodup_cons.mp hports
      simp only [State.answerOwner, ho]
      exact ih ((h.respond_parked hk _).same (hlost _).claims) hrest

theorem handOnParked_dev (s : State) (x : Operation) : (s.handOnParked x).dev = s.dev := by
  rw [State.handOnParked, State.failPortOp, recordLost_eq]
  exact answerOwner_dev s x _

theorem handOnParked_regions (s : State) (x : Operation) : (s.handOnParked x).regions = s.regions := by
  rw [State.handOnParked, State.failPortOp, recordLost_eq]
  exact answerOwner_regions s x _

theorem handOnParked_foldl (s : State) (ops : List Operation) :
    (ops.foldl State.handOnParked s).dev = s.dev ∧ (ops.foldl State.handOnParked s).regions = s.regions :=
  List.foldlRecOn (motive := fun u : State => u.dev = s.dev ∧ u.regions = s.regions) ops _ ⟨rfl, rfl⟩ fun u hu x _ =>
    ⟨(handOnParked_dev u x).trans hu.1, (handOnParked_regions u x).trans hu.2⟩

/-- All the removed work is handed on (R144, R153). -/
theorem State.Agrees.handOnAll {queued parked : List Operation}
    (h : s.Agrees (queued ++ s.dev.queue) (parked.filterMap Operation.owner))
    (hports : (parked.filterMap Operation.owner).Nodup) : s.Hands [] [] (s.handOnAll queued parked) := by
  have hqueued := State.Agrees.handOn_all h
  obtain ⟨hdev, hregions⟩ := handOnParked_foldl (queued.foldl State.handOn s) parked
  refine { hqueued.toKeeps.trans (.of_dev hregions hdev) with agrees := ?_ }
  rw [State.handOnAll, hdev]
  exact hqueued.agrees.handOnParked_all hports

theorem kick_hands (s : State) : s.SameClaims s.kick ∧ s.kick.dev.queue = s.dev.queue :=
  ⟨⟨rfl, rfl, kick_places _ _, fun _ => rfl⟩, kick_queue _ _⟩

/-- The Device Port turns to the head: nothing else of the queue changes. -/
theorem State.queueSound.kick (h : s.queueSound) : s.kick.queueSound := by
  obtain ⟨hagrees, hprobes, hheaded⟩ := queueSound_iff.mp h
  obtain ⟨hclaims, hqueue⟩ := kick_hands s
  refine queueSound_iff.mpr ⟨hqueue ▸ hagrees.same hclaims, ?_, hheaded.kick s.regions⟩
  exact probesQueued_congr hprobes (fun _ => ⟨rfl, Iff.rfl⟩) fun x _ => by rw [hqueue]

/-- All that the agreement with the queue speaks of is in `t` as it is in `s`. -/
structure State.SameQueue (s t : State) : Prop extends s.SameClaims t where
  regions : t.regions = s.regions
  dev : t.dev = s.dev

theorem State.SameWork.sameQueue (f : s.SameWork t) : s.SameQueue t :=
  { f.claims with regions := f.regions, dev := f.dev }

theorem State.queueSound.sameQueue (h : s.queueSound) (f : s.SameQueue t) : t.queueSound := by
  obtain ⟨hagrees, hprobes, hheaded⟩ := queueSound_iff.mp h
  refine queueSound_iff.mpr ⟨f.dev ▸ hagrees.same f.toSameClaims, ?_, f.dev ▸ hheaded⟩
  exact probesQueued_congr hprobes (fun _ => by rw [f.regions]; exact ⟨rfl, Iff.rfl⟩) fun x _ => by rw [f.dev]

theorem State.queueSound.same (h : s.queueSound) (f : s.SameWork t) : t.queueSound := h.sameQueue f.sameQueue

/-- Work handed on without a change to the regions. -/
theorem State.Hands.queueSound (h : s.Hands [] [] t) (hprobes : s.probesQueued) (hheaded : s.dev.headed) :
    t.queueSound := by
  refine queueSound_iff.mpr ⟨h.agrees, ?_, h.headed hheaded⟩
  exact probesQueued_congr hprobes (fun _ => by rw [h.regions]; exact ⟨rfl, Iff.rfl⟩) h.probes

theorem stripRegion_probesBeside (h : s.probesQueued) (r : RegionId) : (s.stripRegion r).ProbesBeside r := by
  refine .of_removed (s := s) h rfl fun x _ => ?_
  show x ∈ s.dev.queue.filter _ ↔ _
  simp [Operation.ofRegion]

/-- Region `r` is OFFLINE with its work handed on: the record is made and the probe timer starts (R153, R157). -/
theorem departed_queueSound (hagrees : s.Agrees s.dev.queue []) (hprobes : s.ProbesBeside r) (hheaded : s.dev.headed)
    (hoffline : s.regions[r].health = .offline) (e : Event) : ((s.record e).startProbeTimer r).kick.queueSound := by
  refine State.queueSound.kick (queueSound_iff.mpr ⟨hagrees.same ⟨rfl, rfl, rfl, fun _ => rfl⟩, ?_, hheaded⟩)
  have hrecorded : (s.record e).ProbesBeside r := hprobes.keeps (fun _ _ => rfl) fun _ _ => Iff.rfl
  exact hrecorded.setRegion (iff_of_true hoffline (Option.some_ne_none _))

/-- Region `r` departs once the operation whose timeout caused it, if there is one, has ended (R153, R163). -/
theorem goOffline_queueSound {first : State → State} {e : Event} (hagrees : s.Agrees (own ++ s.dev.queue) [])
    (hprobes : s.probesQueued) (hheaded : s.dev.headed)
    (hfirst : (s.stripRegion r).Agrees
        (own ++ (s.dev.queue.filter (Operation.ofRegion r) ++ (s.stripRegion r).dev.queue)) (s.parkedPorts r) →
      (s.stripRegion r).Hands (s.dev.queue.filter (Operation.ofRegion r)) (s.parkedPorts r) (first (s.stripRegion r))) :
    (s.goOffline r first e).queueSound := by
  have hended := hfirst (hagrees.stripRegion r)
  have hmarked := hended.agrees.same (t := (first (s.stripRegion r)).markOffline r) ⟨rfl, rfl, rfl, fun _ => rfl⟩
  have hall := State.Agrees.handOnAll (parked := s.dev.parkedOf r) hmarked (parkedPorts_nodup hagrees r)
  refine departed_queueSound hall.agrees ((stripRegion_probesBeside hprobes r).keeps (fun j hj => ?_) fun x hx => ?_)
    (hall.headed (hended.headed ((hheaded.remove (Operation.ofRegion r)).withPlaces _))) ?_ e
  · rw [hall.regions, State.markOffline, setRegion_ne _ hj, hended.regions]
  · exact (hall.probes x hx).trans (hended.probes x hx)
  · rw [hall.regions, State.markOffline, setRegion_self]

/-- Region `r` returns, its probe off the queue (R159, R162). -/
theorem comeOnline_queueSound {e : Event} (hagrees : s.Agrees s.dev.queue []) (hprobes : s.ProbesBeside r)
    (hheaded : s.dev.headed) : (s.comeOnline r e).queueSound := by
  have hmarked := hagrees.same (t := s.markOnline r) ⟨rfl, rfl, rfl, fun _ => rfl⟩
  have hkeeps : (s.markOnline r).probesQueued := hprobes.setRegion (iff_of_false (fun h => nomatch h) fun h => h rfl)
  have hdrain (x : Operation) (hx : x.kind = .probe) :
      x ∈ ((s.markOnline r).requeueDrains r).dev.queue ↔ x ∈ (s.markOnline r).dev.queue := by
    rw [requeueDrains_queue, List.mem_append, or_iff_left]
    intro hm
    obtain ⟨y, -, rfl⟩ := List.mem_map.mp hm
    cases hx
  have hsound : ((s.markOnline r).requeueDrains r).queueSound := by
    refine queueSound_iff.mpr ⟨hmarked.requeueDrains r, ?_, requeueDrains_headed hheaded⟩
    exact probesQueued_congr hkeeps (fun _ => by rw [requeueDrains_regions]; exact ⟨rfl, Iff.rfl⟩) hdrain
  exact (hsound.same (.record (.refl _) e)).kick

end Depart

end Sys2Proof.Machine

/-! ### Answers and timeouts at the Device Port (R136, R140 to R143) -/

namespace Sys2Proof.Machine

/-- The head of the queue has left it, and its result is not handed on yet (R143). -/
structure State.Popped (s : State) (op : Operation) : Prop where
  agrees : s.Agrees (op :: s.dev.queue) []
  probes : (s.owing (op :: s.dev.queue)).probesQueued
  headed : s.dev.headed

section Device

variable {s t : State} {op : Operation}

theorem State.queueSound.popHead (h : s.queueSound) {q : List Operation} (hq : s.dev.queue = op :: q) :
    s.popHead.Popped op := by
  obtain ⟨hagrees, hprobes, -⟩ := queueSound_iff.mp h
  have hqueue : op :: s.popHead.dev.queue = s.dev.queue := by
    show op :: s.dev.queue.tail = _
    rw [hq]
    rfl
  refine ⟨hqueue.symm ▸ hagrees.same ⟨rfl, rfl, rfl, fun _ => rfl⟩, ?_, headed_of_idle rfl⟩
  exact probesQueued_congr hprobes (fun _ => ⟨rfl, Iff.rfl⟩) fun x _ => by
    show x ∈ op :: s.popHead.dev.queue ↔ _
    rw [hqueue]

/-- Where the operation that ended is not a probe, the probes are as they were. -/
theorem State.Popped.probesQueued (h : s.Popped op) (hk : op.kind ≠ .probe) : s.probesQueued := by
  refine probesQueued_congr h.probes (fun _ => ⟨rfl, Iff.rfl⟩) fun x hx => ?_
  show x ∈ s.dev.queue ↔ x ∈ op :: s.dev.queue
  rw [List.mem_cons, or_iff_right]
  rintro rfl
  exact hk hx

/-- Where it is a probe, no other probe of its region is on the queue. -/
theorem State.Popped.probesBeside (h : s.Popped op) (hk : op.kind = .probe) : s.ProbesBeside op.region := by
  refine .of_removed (s := s) h.probes rfl fun x hx => ?_
  have hdiffer := (placesDiffer_cons.mp h.agrees.places).1 x
  rw [place_eq_probe.mpr ⟨hk, rfl⟩, Ne, place_eq_probe] at hdiffer
  rw [List.mem_cons]
  constructor
  · exact fun hm => ⟨.inr hm, fun hr => hdiffer hm ⟨hx, hr⟩⟩
  · rintro ⟨rfl | hm, hr⟩
    · exact absurd rfl hr
    · exact hm

/-- An operation that is not a probe ends. -/
theorem State.Popped.hands (h : s.Popped op) (hk : op.kind ≠ .probe)
    (ht : s.Agrees (op :: ([] ++ s.dev.queue)) [] → s.Hands [] [] t) : t.queueSound :=
  (ht h.agrees).queueSound (h.probesQueued hk) h.headed

theorem State.Popped.handSuccess (h : s.Popped op) (kept : List Word) : (s.handSuccess op kept).queueSound := by
  by_cases hk : op.kind = .probe
  · rw [show s.handSuccess op kept = s.comeOnline op.region (.regionOnlineProbe op.region) by
      simp only [State.handSuccess, hk]]
    exact comeOnline_queueSound (h.agrees.endProbe hk) (h.probesBeside hk) h.headed
  · exact h.hands hk fun ha => ha.handSuccess hk kept

/-- A probe that fails restarts its region's probe timer (R160). -/
theorem State.Popped.startProbeTimer (h : s.Popped op) (hk : op.kind = .probe) :
    (s.startProbeTimer op.region).queueSound := by
  have hoff : s.regions[op.region].health = .offline := (h.probes.1 op List.mem_cons_self hk).1
  refine queueSound_iff.mpr ⟨(h.agrees.endProbe hk).same ⟨rfl, rfl, rfl, fun _ => rfl⟩, ?_, h.headed⟩
  exact (h.probesBeside hk).setRegion (iff_of_true hoff fun hn => nomatch hn)

theorem State.Popped.handError (h : s.Popped op) : (s.handError op).queueSound := by
  by_cases hk : op.kind = .probe
  · rw [show s.handError op = s.startProbeTimer op.region by simp only [State.handError, hk]]
    exact h.startProbeTimer hk
  · exact h.hands hk fun ha => ha.handError hk

theorem State.Popped.handTimeout (h : s.Popped op) (crossed : Bool) : (s.handTimeout op crossed).queueSound := by
  by_cases hk : op.kind = .probe
  · rw [show s.handTimeout op crossed = s.startProbeTimer op.region by simp only [State.handTimeout, hk]]
    exact h.startProbeTimer hk
  · exact h.hands hk fun ha => ha.handTimeout hk crossed

/-- A region's count and configuration have no part in what the queue agrees with. -/
theorem State.queueSound.setRegion (h : s.queueSound) {r : RegionId} {g : Region}
    (hg : g.health = s.regions[r].health ∧ g.probeTimer = s.regions[r].probeTimer) : (s.setRegion r g).queueSound := by
  obtain ⟨hagrees, hprobes, hheaded⟩ := queueSound_iff.mp h
  refine queueSound_iff.mpr ⟨hagrees.same ⟨rfl, rfl, rfl, fun _ => rfl⟩, ?_, hheaded⟩
  refine probesQueued_congr hprobes (fun j => ?_) fun _ _ => Iff.rfl
  by_cases hj : j = r
  · rw [hj, setRegion_self, hg.1, hg.2]
    exact ⟨rfl, Iff.rfl⟩
  · rw [setRegion_ne s hj]
    exact ⟨rfl, Iff.rfl⟩

theorem State.queueSound.setCount (h : s.queueSound) (r : RegionId) (n : Nat) : (s.setCount r n).queueSound :=
  h.setRegion ⟨rfl, rfl⟩

/-- A slot's fill that keeps its line, region and allocating port, and some of its transactions. -/
theorem State.Agrees.mapSlot {Q : List Operation} {D : List Port} (h : s.Agrees Q D) (i : SlotId) (g : Fill → Fill)
    (hreq : ∀ f, ∀ q ∈ (g f).requester, q ∈ f.requester) (hwait : ∀ f, (g f).waiters.Sublist f.waiters)
    (hkept : ∀ f, (g f).allocPort = f.allocPort ∧ (g f).region = f.region ∧ (g f).line = f.line) :
    ({ s with slots := setAt s.slots i (s.slots[i].map g) } : State).Agrees Q D := by
  cases hi : s.slots[i] with
  | none =>
    rw [Option.map_none, ← hi, setAt_self]
    exact h
  | some f =>
    obtain ⟨hport, hregion, hline⟩ := hkept f
    exact h.setSlot_sublist hi (hreq f) (hwait f) hport hregion hline

theorem State.queueSound.mapSlot (h : s.queueSound) (i : SlotId) (g : Fill → Fill)
    (hreq : ∀ f, ∀ q ∈ (g f).requester, q ∈ f.requester) (hwait : ∀ f, (g f).waiters.Sublist f.waiters)
    (hkept : ∀ f, (g f).allocPort = f.allocPort ∧ (g f).region = f.region ∧ (g f).line = f.line) :
    ({ s with slots := setAt s.slots i (s.slots[i].map g) } : State).queueSound := by
  obtain ⟨hagrees, hprobes, hheaded⟩ := queueSound_iff.mp h
  exact queueSound_iff.mpr ⟨hagrees.mapSlot i g hreq hwait hkept, hprobes, hheaded⟩

theorem State.queueSound.receive (h : s.queueSound) (op : Operation) (w : Word) : (s.receive op w).queueSound := by
  unfold State.receive
  split
  · exact h.mapSlot _ _ (fun _ _ hq => hq) (fun _ => List.Sublist.refl _) fun _ => ⟨rfl, rfl, rfl⟩
  all_goals exact h

theorem receive_dev (s : State) (op : Operation) (w : Word) : (s.receive op w).dev = s.dev := by
  unfold State.receive
  split <;> rfl

/-- Another presentation of the head, or none. -/
theorem State.queueSound.setPhase (h : s.queueSound) {p : DevPhase}
    (hp : ({ s.dev with phase := p } : DevicePort).headed) : (s.setPhase p).queueSound := by
  obtain ⟨hagrees, hprobes, -⟩ := queueSound_iff.mp h
  exact queueSound_iff.mpr ⟨hagrees.same ⟨rfl, rfl, rfl, fun _ => rfl⟩, hprobes, hp⟩

theorem State.queueSound.endOrphan (h : s.queueSound) : s.endOrphan.queueSound :=
  (h.setPhase (headed_of_idle rfl)).kick

/-- The next transfer of the head is presented. -/
theorem State.queueSound.presentNext (h : s.queueSound) {q : List Operation} (hq : s.dev.queue = op :: q) {x : Transfer}
    {rest : List Transfer} (hrest : ∀ y ∈ x :: rest, y.region = op.region) (gathered : Word) (kept : List Word) :
    (s.presentNext x rest gathered kept).queueSound := by
  refine h.setPhase fun now timer rest' gathered' kept' hb => ?_
  obtain ⟨rfl, -, rfl, -, -⟩ := DevPhase.busy.inj hb
  exact ⟨op, q, hq, hrest⟩

theorem State.queueSound.ackWord (h : s.queueSound) {q : List Operation} (hq : s.dev.queue = op :: q)
    {rest : List Transfer} (hrest : ∀ y ∈ rest, y.region = op.region) (w : Word) (kept : List Word) :
    (s.ackWord op rest w kept).queueSound := by
  have hreceived := h.receive op w
  have hqueue : (s.receive op w).dev.queue = op :: q := by rw [receive_dev, hq]
  cases rest with
  | nil => exact ((hreceived.popHead hqueue).handSuccess _).kick
  | cons x rest => exact hreceived.presentNext hqueue hrest _ _

/-- The presented transfer of a BUSY Device Port is of the head's region. -/
theorem State.queueSound.head_region (h : s.queueSound) {now : Transfer} {timer : Nat} {rest : List Transfer}
    {gathered : Word} {kept : List Word} {q : List Operation} (hp : s.dev.phase = .busy now timer rest gathered kept)
    (hq : s.dev.queue = op :: q) : now.region = op.region ∧ ∀ x ∈ rest, x.region = op.region := by
  obtain ⟨-, -, hheaded⟩ := queueSound_iff.mp h
  obtain ⟨op', q', hq', hx⟩ := hheaded _ _ _ _ _ hp
  obtain ⟨rfl, -⟩ := List.cons.inj (hq.symm.trans hq')
  exact List.forall_mem_cons.mp hx

theorem State.queueSound.acked (h : s.queueSound) (data : Word) : (s.acked data).queueSound := by
  unfold State.acked
  split
  · exact h
  · exact h.endOrphan
  · next now timer rest gathered kept op q hp hq =>
    obtain ⟨-, hrest⟩ := h.head_region hp hq
    have hcounted := h.setCount now.region 0
    unfold State.ackHead
    split
    · exact hcounted.ackWord hq hrest _ _
    · split
      · exact hcounted.ackWord hq hrest _ _
      · exact hcounted.presentNext hq hrest _ _
  · exact h

theorem State.queueSound.errored (h : s.queueSound) : s.errored.queueSound := by
  unfold State.errored
  split
  · exact h
  · exact h.endOrphan
  · next hq => exact (((h.setCount _ _).popHead hq).handError).kick
  · exact h

/-- The head's timeout takes its region OFFLINE: the head is not a probe, as the region was ONLINE (R142, R153). -/
theorem State.Popped.goOffline (h : s.Popped op) {r : RegionId} (hop : op.region = r)
    (hr : s.regions[r].health = .online) (e : Event) :
    (s.goOffline r (fun s => s.handTimeout op true) e).queueSound := by
  have hk : op.kind ≠ .probe := fun hk => by
    have hoff : s.regions[op.region].health = .offline := (h.probes.1 op List.mem_cons_self hk).1
    subst hop
    exact nomatch hr.symm.trans hoff
  exact goOffline_queueSound (own := [op]) h.agrees (h.probesQueued hk) h.headed fun ha =>
    State.Agrees.handTimeout ha hk true

theorem State.queueSound.timedOut (h : s.queueSound) : s.timedOut.queueSound := by
  unfold State.timedOut
  split
  · exact h
  · exact h.endOrphan
  · next now timer rest gathered kept op q hp hq =>
    obtain ⟨hnow, -⟩ := h.head_region hp hq
    have hpopped := (h.setCount now.region s.regions[now.region].countUp).popHead hq
    unfold State.timeoutHead
    split
    · next hcross =>
      refine hpopped.goOffline hnow.symm ?_ _
      rw [Region.crosses, Bool.and_eq_true, beq_iff_eq] at hcross
      show (s.setCount now.region _).regions[now.region].health = _
      rw [State.setCount, setRegion_self]
      exact hcross.1
    · exact (hpopped.handTimeout false).kick
  · exact h

end Device

end Sys2Proof.Machine

/-! ### Resets (R22, R24, R150, R195) -/

namespace Sys2Proof.Machine

section Resets

variable {s t : State} {k : Port} {Q : List Operation} {D : List Port}

/-- A machine with no work has nothing to disagree about. -/
theorem queueSound_of_empty (hslots : ∀ i : SlotId, t.slots[i] = none) (hdrains : t.drains = [])
    (hqueue : t.dev.queue = []) (hplaces : ∀ k : Port, t.dev.places[k] = .free)
    (hflights : ∀ k : Port, t.ports[k].flight = none)
    (hregions : ∀ r : RegionId, t.regions[r].probeTimer = none ∧ t.regions[r].health ≠ .offline)
    (hheaded : t.dev.headed) : t.queueSound := by
  refine queueSound_iff.mpr ⟨⟨?_, fun i => ?_, ?_, fun k => ?_⟩, ?_, hheaded⟩
  · simp [hqueue, placesDiffer]
  · simp [-Fin.getElem_fin, State.slotAgrees, hslots, hqueue]
  · simp [State.drainsQueued, State.owing, hdrains, hqueue]
  · simp [-Fin.getElem_fin, State.portAgrees, hplaces, hqueue, hflights]
  · simp [-Fin.getElem_fin, State.probesQueued, hqueue, hregions]

theorem atPowerOn_queueSound (s : State) (pin : Bool) : (s.atPowerOn pin).queueSound := by
  have hslots : ∀ i : SlotId, State.reset.slots[i] = none := by decide
  have hplaces : ∀ k : Port, State.reset.dev.places[k] = .free := by decide
  have hflights : ∀ k : Port, State.reset.ports[k].flight = none := by decide
  have hregions : ∀ r : RegionId,
      State.reset.regions[r].probeTimer = none ∧ State.reset.regions[r].health ≠ .offline := by decide
  exact queueSound_of_empty hslots rfl rfl hplaces (fun k => by rw [atPowerOn_port]; exact hflights k) hregions
    (headed_of_idle rfl)

theorem softReset_headed (d : DevicePort) : d.softReset.headed := by
  intro now timer rest gathered kept hb
  unfold DevicePort.softReset at hb
  split at hb <;> cases hb

/-- A DISABLED region's probe timer is STOPPED, and the other regions' are after soft reset. -/
theorem State.queueSound.softReset (h : s.queueSound) (k : Port) : (s.softReset k).queueSound := by
  obtain ⟨-, ⟨-, hregions⟩, -⟩ := queueSound_iff.mp h
  refine queueSound_of_empty (fun i => ?_) rfl rfl (fun k => ?_) (fun j => ?_) (fun r => ?_) (softReset_headed s.dev)
  · simp [State.softReset]
  · simp [State.softReset, DevicePort.softReset]
  · rw [show (s.softReset k).ports[j] = s.ports[j].softReset from mapAll_getElem _ _ _]
    rfl
  · rw [show (s.softReset k).regions[r] = s.regions[r].softReset from mapAll_getElem _ _ _, Region.softReset_eq]
    split
    · next hd =>
      rw [hd]
      refine ⟨?_, fun hn => nomatch hn⟩
      by_contra hn
      exact nomatch hd.symm.trans ((hregions r).1 hn)
    · exact ⟨rfl, fun hn => nomatch hn⟩

/-- A transaction that is in a slot as its requester is in no other slot and not among the waiters. -/
theorem State.Agrees.held_requester (h : s.Agrees Q D) {i j : SlotId} {f : Fill}
    (hk : s.ports[k].flight = some (.requester i)) (hf : s.slots[j] = some f) (hh : f.holds k) :
    j = i ∧ f.requester ≠ none := by
  have hslot := h.slots j
  simp only [State.slotAgrees, hf] at hslot
  obtain ⟨hreq, hwait, -⟩ := hslot
  obtain ⟨q, hq, rfl⟩ := hh
  rcases List.mem_append.mp hq with hq | hq
  · have hq' := Option.mem_toList.mp hq
    have hplaced := (hreq q hq').2
    rw [hk] at hplaced
    exact ⟨(Placement.requester.inj (Option.some.inj hplaced)).symm, fun hn => nomatch hn.symm.trans hq'⟩
  · exact nomatch hk.symm.trans (hwait q hq).2

/-- A transaction that is in a slot as a waiter is in no other slot. -/
theorem State.Agrees.held_waiter (h : s.Agrees Q D) {i j : SlotId} {f : Fill}
    (hk : s.ports[k].flight = some (.waiter i)) (hf : s.slots[j] = some f) (hh : f.holds k) :
    j = i ∧ ∃ q ∈ f.waiters, q.port = k := by
  have hslot := h.slots j
  simp only [State.slotAgrees, hf] at hslot
  obtain ⟨hreq, hwait, -⟩ := hslot
  obtain ⟨q, hq, rfl⟩ := hh
  rcases List.mem_append.mp hq with hq | hq
  · exact nomatch hk.symm.trans (hreq q (Option.mem_toList.mp hq)).2
  · have hplaced := (hwait q hq).2
    rw [hk] at hplaced
    exact ⟨(Placement.waiter.inj (Option.some.inj hplaced)).symm, q, hq, rfl⟩

/-- A slot after a change of fill `i`. -/
theorem mapSlot_slots {i j : SlotId} {g : Fill → Fill} {f : Fill}
    (h : (setAt s.slots i (s.slots[i].map g))[j] = some f) :
    j ≠ i ∧ s.slots[j] = some f ∨ j = i ∧ ∃ f', s.slots[i] = some f' ∧ f = g f' := by
  rw [setAt_getElem] at h
  split at h
  · next hi =>
    obtain ⟨f', hf', rfl⟩ := Option.map_eq_some_iff.mp h
    exact .inr ⟨hi.symm, f', hf', rfl⟩
  · next hi => exact .inl ⟨Ne.symm hi, h⟩

/-- The slots and the Device Port once port `k`'s transaction has been abandoned are as if it had never been there. -/
theorem State.Agrees.abandonRequester (h : s.Agrees Q D) {i : SlotId} (hk : s.ports[k].flight = some (.requester i)) :
    ({ s with slots := setAt s.slots i (s.slots[i].map Fill.abandonRequester) } : State).Agrees Q D ∧
      ({ s with slots := setAt s.slots i (s.slots[i].map Fill.abandonRequester) } : State).unheld k := by
  have hagrees := h.mapSlot i Fill.abandonRequester (fun _ _ hq => nomatch hq) (fun _ => List.Sublist.refl _)
    fun _ => ⟨rfl, rfl, rfl⟩
  refine ⟨hagrees, (fun hp => nomatch hk.symm.trans hp), fun j f hf hh => ?_⟩
  obtain ⟨hj, hreq⟩ := hagrees.held_requester hk hf hh
  obtain ⟨hn, -⟩ | ⟨-, f', -, rfl⟩ := mapSlot_slots hf
  · exact hn hj
  · exact hreq rfl

theorem State.Agrees.abandonWaiter (h : s.Agrees Q D) {i : SlotId} (hk : s.ports[k].flight = some (.waiter i)) :
    ({ s with slots := setAt s.slots i (s.slots[i].map fun f => f.abandonWaiter k) } : State).Agrees Q D ∧
      ({ s with slots := setAt s.slots i (s.slots[i].map fun f => f.abandonWaiter k) } : State).unheld k := by
  have hagrees := h.mapSlot i (fun f => f.abandonWaiter k) (fun _ _ hq => hq) (fun _ => List.filter_sublist)
    fun _ => ⟨rfl, rfl, rfl⟩
  refine ⟨hagrees, (fun hp => nomatch hk.symm.trans hp), fun j f hf hh => ?_⟩
  obtain ⟨hj, q, hq, hqk⟩ := hagrees.held_waiter hk hf hh
  obtain ⟨hn, -⟩ | ⟨-, f', -, rfl⟩ := mapSlot_slots hf
  · exact hn hj
  · have hne := (List.mem_filter.mp hq).2
    rw [hqk, bne_self_eq_false] at hne
    cases hne

/-- Port `k`'s transaction is abandoned and the port IDLE (R22, R56, R57, R148, R149). -/
theorem State.Agrees.abandonFlight (h : s.Agrees s.dev.queue []) (hslots : t.slots = (s.abandonFlight k).slots)
    (hdrains : t.drains = s.drains) (hdev : t.dev = (s.abandonFlight k).dev)
    (hflights : ∀ j : Port, j ≠ k → t.ports[j].flight = s.ports[j].flight) (hnone : t.ports[k].flight = none) :
    t.Agrees t.dev.queue [] := by
  have hidle {u : State} (hu : u.Agrees u.dev.queue []) (hk : u.unheld k) (hs : t.slots = u.slots)
      (hd : u.drains = s.drains) (hv : t.dev = u.dev) (hp : u.ports = s.ports) : t.Agrees t.dev.queue [] := by
    rw [hv]
    refine (hu.setPort hk (p := { u.ports[k] with flight := none }) fun hn => nomatch hn).same
      ⟨hs, hdrains.trans hd.symm, by rw [hv]; rfl, fun j => ?_⟩
    rw [State.setPort_ports, setAt_getElem]
    split
    · next hj => rw [← hj, hnone]
    · next hj => rw [hflights j (Ne.symm hj), hp]
  cases hk : s.ports[k].flight with
  | none =>
    simp only [State.abandonFlight, hk] at hslots hdev
    exact hidle h (h.unheld_idle hk) hslots rfl hdev rfl
  | some placement =>
    cases placement with
    | atPort x =>
      simp only [State.abandonFlight, hk] at hslots hdev
      exact hidle h (h.unheld_atPort hk) hslots rfl hdev rfl
    | requester i =>
      simp only [State.abandonFlight, hk] at hslots hdev
      exact hidle (h.abandonRequester hk).1 (h.abandonRequester hk).2 hslots rfl hdev rfl
    | waiter i =>
      simp only [State.abandonFlight, hk] at hslots hdev
      exact hidle (h.abandonWaiter hk).1 (h.abandonWaiter hk).2 hslots rfl hdev rfl
    | portOp =>
      simp only [State.abandonFlight, hk] at hslots hdev
      rw [recordAbandoned_eq] at hslots
      exact h.abandon hk hslots hdrains hdev hflights hnone

/-- Only a port operation's abandonment reaches the Device Port. -/
theorem abandonFlight_dev (s : State) (k : Port) :
    (s.abandonFlight k).dev = s.dev ∨ (s.abandonFlight k).dev = s.dev.abandon k := by
  unfold State.abandonFlight
  split
  · exact .inl rfl
  · exact .inl rfl
  · exact .inl rfl
  · exact .inl rfl
  · exact .inr rfl

/-- Abandonment leaves the probes on the queue. -/
theorem abandon_probe (d : DevicePort) (k : Port) {x : Operation} (hx : x.kind = .probe) :
    x ∈ (d.abandon k).queue ↔ x ∈ d.queue := by
  unfold DevicePort.abandon
  split
  · exact Iff.rfl
  · exact mem_map_disown fun hp => nomatch (probe_port hx).symm.trans hp
  · exact Iff.rfl

/-- Port reset in the blocks that hold work. -/
theorem portReset_work (s : State) (k : Port) :
    (s.portReset k).ports = setAt s.ports k s.ports[k].wasReset ∧ (s.portReset k).slots = (s.abandonFlight k).slots ∧
      (s.portReset k).drains = s.drains ∧ (s.portReset k).regions = s.regions ∧
      (s.portReset k).dev = (s.abandonFlight k).dev := by
  simp only [portReset_eq, State.unshared, and_self]

theorem State.queueSound.portReset (h : s.queueSound) (k : Port) : (s.portReset k).queueSound := by
  obtain ⟨hagrees, hprobes, hheaded⟩ := queueSound_iff.mp h
  obtain ⟨hports, hslots, hdrains, hregions, hdev⟩ := portReset_work s k
  refine queueSound_iff.mpr ⟨hagrees.abandonFlight hslots hdrains hdev (fun j hj => ?_) ?_, ?_, ?_⟩
  · rw [hports, setAt_getElem_ne _ hj.symm]
  · rw [hports, setAt_getElem_self]
    rfl
  · refine probesQueued_congr hprobes (fun r => by rw [hregions]; exact ⟨rfl, Iff.rfl⟩) fun x hx => ?_
    rw [hdev]
    rcases abandonFlight_dev s k with heq | heq
    · rw [heq]
    · rw [heq]
      exact abandon_probe s.dev k hx
  · rw [hdev]
    rcases abandonFlight_dev s k with heq | heq
    · rw [heq]
      exact hheaded
    · rw [heq]
      exact hheaded.abandon k

end Resets

end Sys2Proof.Machine

/-! ### Steps -/

namespace Sys2Proof.Machine

section Outside

variable {s t u : State} {k : Port}

/-- Port `k`'s transaction, if there is one, waits at its port. -/
def State.outside (s : State) (k : Port) : Prop :=
  s.ports[k].flight = none ∨ ∃ x, s.ports[k].flight = some (.atPort x)

theorem State.outside.unheld {Q : List Operation} {D : List Port} (hk : s.outside k) (h : s.Agrees Q D) :
    s.unheld k := by
  obtain hn | ⟨x, hx⟩ := hk
  · exact h.unheld_idle hn
  · exact h.unheld_atPort hx

theorem State.outside.flight (hk : s.outside k) (hf : t.ports[k].flight = s.ports[k].flight) : t.outside k := by
  unfold State.outside
  rw [hf]
  exact hk

theorem State.outside.respond (hk : s.outside k) (j : Port) (r : Response) : (s.respond j r).outside k := by
  unfold State.outside
  rw [respond_flight]
  split
  · exact .inl rfl
  · exact hk

/-- The response to a transaction that waits at its port. -/
theorem State.queueSound.respond (h : s.queueSound) (hk : s.outside k) (r : Response) : (s.respond k r).queueSound := by
  obtain ⟨hagrees, hprobes, hheaded⟩ := queueSound_iff.mp h
  exact queueSound_iff.mpr ⟨hagrees.respond (hk.unheld hagrees) r, hprobes, hheaded⟩

/-! What a region's departure answers leaves a transaction at its port there. -/

theorem State.outside.failFill (hk : s.outside k) (i : SlotId) (c : FaultCause) : (s.failFill i c).outside k := by
  unfold State.failFill
  split
  · exact hk
  · next f _ =>
    have hanswered : (s.answerAll f.served fun _ => .fault c).outside k :=
      List.foldlRecOn (motive := fun u : State => u.outside k) f.served _ hk fun _ hu q _ => hu.respond q.port _
    exact hanswered.flight rfl

theorem State.outside.failPortOp (hk : s.outside k) (op : Operation) (c : FaultCause) (how : LostHow) :
    (s.failPortOp op c how).outside k := by
  have hanswer : (s.answerOwner op (.fault c)).outside k := by
    unfold State.answerOwner
    split
    · exact hk
    · exact hk.respond _ _
  refine hanswer.flight ?_
  rw [State.failPortOp, recordLost_eq]

theorem State.outside.handOn (hk : s.outside k) (op : Operation) : (s.handOn op).outside k := by
  unfold State.handOn
  split
  · exact hk.failFill _ _
  · exact hk.flight rfl
  · exact (hk.failPortOp op _ _).flight rfl
  · exact (hk.failPortOp op _ _).flight rfl
  · exact hk

theorem State.outside.handOnAll (hk : s.outside k) (queued parked : List Operation) :
    (s.handOnAll queued parked).outside k := by
  unfold State.handOnAll
  refine List.foldlRecOn (motive := fun u : State => u.outside k) parked _ ?_ fun _ hu op _ => hu.failPortOp op _ _
  exact List.foldlRecOn (motive := fun u : State => u.outside k) queued _ hk fun _ hu op _ => hu.handOn op

theorem State.outside.departed (hk : s.outside k) (r : RegionId) (e : Event) :
    ((s.record e).startProbeTimer r).kick.outside k := hk.flight rfl

theorem State.outside.goOffline (hk : s.outside k) (r : RegionId) (e : Event) : (s.goOffline r id e).outside k := by
  have hmarked : ((s.stripRegion r).markOffline r).outside k := hk.flight rfl
  exact (hmarked.handOnAll _ _).departed r e

end Outside

/-! ### The control window -/

section Window

variable {s t : State} {k : Port} {r : RegionId}

theorem setPort_sameQueue {p : MasterPort} (hp : p.flight = s.ports[k].flight) : s.SameQueue (s.setPort k p) :=
  { setPort_claims hp with regions := rfl, dev := rfl }

theorem State.SameQueue.trans {u : State} (f : s.SameQueue t) (g : t.SameQueue u) : s.SameQueue u where
  slots := g.slots.trans f.slots
  drains := g.drains.trans f.drains
  places := g.places.trans f.places
  flight j := (g.flight j).trans (f.flight j)
  regions := g.regions.trans f.regions
  dev := g.dev.trans f.dev

theorem setMode_sameQueue (s : State) (k : Port) (m : Mode) : s.SameQueue (s.setMode k m) := setPort_sameQueue rfl

theorem writePermission_sameQueue (s : State) (j : Port) (permission eventEnable : Bool) :
    s.SameQueue (s.writePermission j permission eventEnable) := setPort_sameQueue rfl

theorem detach_sameQueue (s : State) (k : Port) : s.SameQueue (s.detach k) :=
  (State.SameWork.emptyNotices (.dropSharer (.refl s) k) k).sameQueue.trans (setMode_sameQueue _ k _)

theorem writeMode_sameQueue (s : State) (j : Port) (coherent : Bool) : s.SameQueue (s.writeMode j coherent) := by
  unfold State.writeMode
  split
  · exact setMode_sameQueue s j _
  · exact (State.SameWork.refl s).sameQueue
  · exact (State.SameWork.refl s).sameQueue
  · exact (detach_sameQueue s j).trans (setMode_sameQueue _ j _)
  · exact setMode_sameQueue s j _

/-- An access that leaves the queue and its holders is answered. -/
theorem State.queueSound.answered (h : s.queueSound) (hk : s.outside k) (f : s.SameQueue t) (a : Response) :
    (t.respond k a).queueSound :=
  (h.sameQueue f).respond (hk.flight (f.flight k)) a

/-- A region's table entry is written while none of its probes is queued. -/
theorem State.queueSound.writeRegion (h : s.queueSound) {g : Region}
    (habsent : ∀ x ∈ s.dev.queue, x.kind = .probe → x.region ≠ r) (hg : g.health = .offline ↔ g.probeTimer ≠ none) :
    (s.setRegion r g).queueSound := by
  obtain ⟨hagrees, hprobes, hheaded⟩ := queueSound_iff.mp h
  refine queueSound_iff.mpr ⟨hagrees.same ⟨rfl, rfl, rfl, fun _ => rfl⟩, ?_, hheaded⟩
  exact (State.ProbesBeside.of_absent hprobes habsent).setRegion hg

/-- A region that nothing belongs to has no probe on the queue (R132). -/
theorem absent_of_belongs (h : s.belongs r = false) : ∀ x ∈ s.dev.queue, x.kind = .probe → x.region ≠ r := by
  simp only [State.belongs, Bool.or_eq_false_iff, List.any_eq_false] at h
  obtain ⟨⟨⟨⟨-, hqueue⟩, -⟩, -⟩, -⟩ := h
  exact fun x hx _ hr => hqueue x hx (beq_iff_eq.mpr hr)

/-- The probe timer of a region stops and its probe joins the queue (R157, R161). -/
theorem State.queueSound.queueProbe (h : s.queueSound) (ht : s.regions[r].probeTimer ≠ none) :
    (s.queueProbe r).queueSound := by
  obtain ⟨hagrees, hprobes, hheaded⟩ := queueSound_iff.mp h
  have habsent := hprobes.absent (.inr ht)
  have hoff : s.regions[r].health = .offline := (hprobes.2 r).1 ht
  have hqueue : (s.queueProbe r).dev.queue = s.dev.queue ++ [probeOp r s.regions[r].cfg] := join_queue _ _ _
  have hself : (s.queueProbe r).regions[r] = { s.regions[r] with probeTimer := none } := setRegion_self s r _
  have hother (j : RegionId) (hj : j ≠ r) : (s.queueProbe r).regions[j] = s.regions[j] := setRegion_ne s hj _
  refine queueSound_iff.mpr ⟨?_, ⟨fun x hx hk => ?_, fun j => ?_⟩, hheaded.join _ _⟩
  · rw [hqueue]
    exact (hagrees.addProbe rfl habsent).same ⟨rfl, rfl, join_places _ _ _, fun _ => rfl⟩
  · rw [hqueue, List.mem_append, List.mem_singleton] at hx
    obtain hx | rfl := hx
    · rw [hother _ (habsent x hx hk)]
      exact hprobes.1 x hx hk
    · show (s.queueProbe r).regions[r].health = .offline ∧ (s.queueProbe r).regions[r].probeTimer = none
      rw [hself]
      exact ⟨hoff, rfl⟩
  · rw [hqueue]
    by_cases hj : j = r
    · subst hj
      rw [hself]
      exact ⟨fun hn => absurd rfl hn, fun _ => .inr ⟨_, List.mem_append_right _ List.mem_cons_self, rfl, rfl⟩⟩
    · rw [hother j hj]
      refine ⟨(hprobes.2 j).1, fun ho => ((hprobes.2 j).2 ho).imp_right ?_⟩
      rintro ⟨x, hx, hk, hr⟩
      exact ⟨x, List.mem_append_left _ hx, hk, hr⟩

/-- A region's probe leaves the queue and the region returns (R162). -/
theorem State.queueSound.forceOnline (h : s.queueSound) (r : RegionId) (e : Event) :
    ((s.dropProbe r).comeOnline r e).queueSound := by
  obtain ⟨hagrees, hprobes, hheaded⟩ := queueSound_iff.mp h
  have hops (x : Operation) : x ∈ (s.dropProbe r).dev.queue ↔ x ∈ s.dev.queue ∧ ¬(x.kind = .probe ∧ x.region = r) := by
    show x ∈ s.dev.queue.filter _ ↔ _
    simp [Operation.isProbeOf, imp_iff_not_or]
  have hdropped : s.Agrees (s.dropProbe r).dev.queue [] := by
    refine hagrees.probe_step (fun x hx => ?_) (h.1.sublist (List.filter_sublist.map _))
    rw [hops]
    exact and_iff_left fun hp => hx hp.1
  refine comeOnline_queueSound (hdropped.same ⟨rfl, rfl, rfl, fun _ => rfl⟩)
    (.of_removed (s := s) hprobes rfl fun x hx => ?_) (hheaded.remove _)
  rw [hops, not_and]
  exact and_congr_right fun _ => ⟨fun hn => hn hx, fun hn _ => hn⟩

theorem State.queueSound.forceOffline (h : s.queueSound) (r : RegionId) (e : Event) :
    (s.goOffline r id e).queueSound := by
  obtain ⟨hagrees, hprobes, hheaded⟩ := queueSound_iff.mp h
  exact goOffline_queueSound (own := []) hagrees hprobes hheaded fun ha => { State.Keeps.refl _ with agrees := ha }

theorem State.queueSound.windowDoes (h : s.queueSound) (hk : s.outside k) (hw : s.WindowDoes k t) : t.queueSound := by
  have habsent (r : RegionId) (hr : s.regions[r].health = .disabled) :
      ∀ x ∈ s.dev.queue, x.kind = .probe → x.region ≠ r :=
    (queueSound_iff.mp h).2.1.absent (.inl fun hn => nomatch hr.symm.trans hn)
  cases hw with
  | left => exact h
  | answered same a => exact h.answered hk same.sameQueue a
  | softReset => exact h.softReset k
  | resTime v _ | noticeTime v _ | urgency v _ =>
    exact h.answered hk { State.SameWork.claims (.refl s) with regions := rfl, dev := rfl } _
  | portCfg j coherent permission eventEnable _ =>
    exact h.answered hk ((writeMode_sameQueue s j coherent).trans (writePermission_sameQueue _ j _ _)) _
  | attached j m => exact h.answered hk (setMode_sameQueue s j m) _
  | detached j => exact h.answered hk (detach_sameQueue s j) _
  | configured r c _ =>
    have hset := h.setRegion (r := r) (g := { s.regions[r] with cfg := c }) ⟨rfl, rfl⟩
    exact hset.respond (hk.flight rfl) _
  | enabled r hr =>
    exact (h.writeRegion (habsent r hr) (by simp)).respond (hk.flight rfl) _
  | disabled r unused =>
    exact (h.writeRegion (absent_of_belongs unused) (by simp)).respond (hk.flight rfl) _
  | probed r _ n timer =>
    exact (h.queueProbe (by rw [timer]; exact fun hn => nomatch hn)).respond (hk.flight rfl) _
  | forcedOnline r e _ =>
    refine (h.forceOnline r e).respond (hk.flight ?_) _
    rw [State.comeOnline, State.kick, State.record_ports, requeueDrains_ports]
    rfl
  | forcedOffline r e _ => exact (h.forceOffline r e).respond (hk.goOffline r e) _

end Window

/-! ### The directory -/

section Directory

variable {s t : State} {k : Port} {q : Request}

theorem State.queueSound.hands (h : s.queueSound) (ht : s.Agrees ([] ++ s.dev.queue) [] → s.Hands [] [] t) :
    t.queueSound := by
  obtain ⟨hagrees, hprobes, hheaded⟩ := queueSound_iff.mp h
  exact (ht hagrees).queueSound hprobes hheaded

/-- A drain entry is made at most (R70). -/
theorem State.queueSound.makesDrain (h : s.queueSound) (hd : s.MakesDrain t) : t.queueSound := by
  cases hd with
  | none same => exact h.same same
  | made room kind l x same =>
    refine State.queueSound.same (h.hands fun ha => ?_) same
    have hkeeps : s.Keeps (s.addDrain kind l x) := .join (places := s.dev.places) OpKind.noConfusion rfl rfl
    exact { hkeeps with agrees := State.Agrees.addDrain ha room kind l x }

theorem State.MakesDrain.ports (hd : s.MakesDrain t) : t.ports = s.ports := by
  cases hd with
  | none same => exact same.ports
  | made room kind l x same => exact same.ports

theorem State.MakesDrain.slots (hd : s.MakesDrain t) : t.slots = s.slots := by
  cases hd with
  | none same => exact same.slots
  | made room kind l x same => exact same.slots

theorem State.queueSound.directs (h : s.queueSound) (hk : s.outside q.port) (hd : s.Directs q t) : t.queueSound := by
  cases hd with
  | settled settles =>
    exact h.hands fun ha => { settles.keeps with agrees := State.Agrees.settles ha (hk.unheld ha) settles }
  | installed evicts r => exact (h.makesDrain evicts).respond (hk.flight (by rw [evicts.ports])) r
  | @filling u evicts w i free =>
    have hu : u.outside q.port := hk.flight (by rw [evicts.ports])
    have hkeeps : u.Keeps (((u.setSlot i (some (q.fill w))).enqueue
        (fillOp i q.region q.txn.line q.txn.word)).place q.port (.requester i)) :=
      .join (places := u.dev.places) OpKind.noConfusion rfl rfl
    refine (h.makesDrain evicts).hands fun ha => { hkeeps with agrees := ?_ }
    exact State.Agrees.startFill ha (hu.unheld ha) (by rw [evicts.slots, free]) w _ rfl
  | joined i f slot =>
    exact h.hands fun ha =>
      { State.Keeps.of_dev rfl rfl with agrees := State.Agrees.joinFill ha (hk.unheld ha) slot _ rfl }

end Directory

/-! ### Every step -/

section Steps

variable {s t : State}

/-- Time that elapses takes no timer away and presents nothing else (R197). -/
theorem State.queueSound.elapse (h : s.queueSound) (d : Nat) : (s.elapse d).queueSound := by
  obtain ⟨hagrees, hprobes, hheaded⟩ := queueSound_iff.mp h
  refine queueSound_iff.mpr ⟨hagrees.same ⟨rfl, rfl, rfl, fun _ => rfl⟩, ?_, ?_⟩
  · refine probesQueued_congr hprobes (fun r => ?_) fun _ _ => Iff.rfl
    rw [show (s.elapse d).regions[r] = s.regions[r].age d from mapAll_getElem _ _ _]
    exact ⟨rfl, Option.map_eq_none_iff⟩
  · intro now timer rest gathered kept hb
    rw [State.elapse_dev] at hb
    cases hp : s.dev.phase with
    | idle | clearing => rw [hp] at hb; cases hb
    | busy now' timer' rest' gathered' kept' =>
      rw [hp] at hb
      obtain ⟨rfl, -, rfl, -, -⟩ := DevPhase.busy.inj hb
      exact hheaded _ _ _ _ _ hp

/-- An IDLE port takes a transaction (R5). -/
theorem State.queueSound.accept (h : s.queueSound) {k : Port} (hk : s.ports[k].flight = none) (x : Transaction) :
    (s.place k (.atPort x)).queueSound :=
  h.hands fun ha =>
    { State.Keeps.of_dev rfl rfl with agrees := State.Agrees.setPort ha (ha.unheld_idle hk) fun hn => nomatch hn }

/-- Whatever a step does, the queue and what its operations stand for stay in agreement. -/
theorem State.queueSound.does (h : s.queueSound) (hd : s.Does t) : t.queueSound := by
  have hport {u : State} {k : Port} {x : Transaction} (same : s.SameWork u)
      (waiting : s.ports[k].flight = some (.atPort x)) : u.outside k :=
    .inr ⟨x, by rw [same.ports, waiting]⟩
  cases hd with
  | same same => exact h.same same
  | accepted k x idle same => exact (h.accept idle x).same same
  | lineLevel same k level => exact (h.same same).sameQueue (setPort_sameQueue rfl)
  | portReset same k => exact (h.same same).portReset k
  | powerOn pin => exact atPowerOn_queueSound s pin
  | elapsed same d after => exact ((h.same same).elapse d).same after
  | acked same data => exact (h.same same).acked data
  | errored same => exact (h.same same).errored
  | timedOut same d => exact ((h.same same).elapse d).timedOut
  | @probeQueued u same d r n timer =>
    refine ((h.same same).elapse d).queueProbe ?_
    rw [show (u.elapse d).regions[r] = u.regions[r].age d from mapAll_getElem _ _ _, same.regions, Region.age, timer]
    exact fun hn => nomatch hn
  | noticeTimedOut same d k after => exact (((h.same same).elapse d).sameQueue (detach_sameQueue _ k)).same after
  | tainted same i after =>
    refine State.queueSound.same ?_ after
    exact (h.same same).mapSlot i _ (fun _ _ hq => hq) (fun _ => List.Sublist.refl _) fun _ => ⟨rfl, rfl, rfl⟩
  | swept same drain => exact (h.same same).makesDrain drain
  | directed same k x waiting q port directs => exact (h.same same).directs (port ▸ hport same waiting) directs
  | window same k x waiting does => exact (h.same same).windowDoes (hport same waiting) does

end Steps

/-- Settles O9: each form a step can take keeps the agreement. -/
theorem stepKeepsDeviceQueueSound : Obligations.StepKeepsDeviceQueueSound := by
  unfold Obligations.StepKeepsDeviceQueueSound
  intro s t h hstep
  obtain ⟨u, same, does⟩ := step_does hstep
  exact (h.same same).does does

end Sys2Proof.Machine

/-! ## The blocks that concern lines

The Line Directory, the fill slots, the Reservation Table, the notice queues and the ports' modes say which lines the
hub holds, for whom they are reserved and who shares them. The lemmas here say once, for each operation of the model,
what it can do to these blocks, as a chain of changes of few kinds (`State.Evolves`); the invariants over these blocks
are then a case analysis over the kinds. -/

namespace Sys2Proof.Machine

/-- The blocks that concern lines. -/
structure Lines where
  dir : Vector DirSet 128
  slots : Vector (Option Fill) 4
  res : Vector (Option Reservation) 6
  notices : Vector NoticeQueue 4
  modes : Vector Mode 4

/-- The blocks of the hub that concern lines. -/
def State.lines (s : State) : Lines :=
  { dir := s.dir, slots := s.slots, res := s.res, notices := s.notices, modes := mapAll s.ports fun p => p.mode }

/-- The blocks that concern lines are in `u` as they are in `s`. -/
def State.SameLines (s u : State) : Prop := u.lines = s.lines

section SameLines

variable {s u v : State}

theorem State.SameLines.dir (h : s.SameLines u) : u.dir = s.dir := congrArg Lines.dir h

theorem State.SameLines.slots (h : s.SameLines u) : u.slots = s.slots := congrArg Lines.slots h

theorem State.SameLines.res (h : s.SameLines u) : u.res = s.res := congrArg Lines.res h

theorem State.SameLines.notices (h : s.SameLines u) : u.notices = s.notices := congrArg Lines.notices h

theorem State.SameLines.mode (h : s.SameLines u) (k : Port) : u.ports[k].mode = s.ports[k].mode := by
  have hmodes : (mapAll u.ports fun p => p.mode) = mapAll s.ports fun p => p.mode := congrArg Lines.modes h
  have hk := congrArg (fun modes : Vector Mode 4 => modes[k]) hmodes
  simpa only [mapAll_getElem] using hk

theorem State.SameLines.refl (s : State) : s.SameLines s := rfl

theorem State.SameLines.trans (h : s.SameLines u) (g : u.SameLines v) : s.SameLines v := Eq.trans g h

/-- A port that keeps its mode changes nothing that concerns lines. -/
theorem setPort_sameLines (s : State) {k : Port} {p : MasterPort} (hp : p.mode = s.ports[k].mode) :
    s.SameLines (s.setPort k p) := by
  have hmodes : (mapAll (setAt s.ports k p) fun p => p.mode) = mapAll s.ports fun p => p.mode := by
    refine Vector.ext fun j hj => ?_
    have hport := setAt_getElem s.ports k ⟨j, hj⟩ p
    simp only [mapAll, Vector.getElem_ofFn, hport]
    split
    · next hk => rw [hp, hk]
    · rfl
  exact congrArg (fun modes => { s.lines with modes := modes }) hmodes

end SameLines

/-- The reservations of `res` are some of those of `old`, their owners and lines kept. -/
def reservationsOf (old res : Vector (Option Reservation) 6) : Prop :=
  ∀ (e : ResId) (x : Reservation), res[e] = some x → ∃ y, old[e] = some y ∧ y.line = x.line ∧ y.owner = x.owner

/-- What a happening that begins in `s` can make of the blocks that concern lines: a chain of changes, each of one
kind. What a hit is served against is known to be its own line only while the directory and the fill slots agree, so
that a grant says of the line what it does under `State.linesSound` of `s`. -/
inductive State.Evolves (s : State) : State → Prop
  | refl : s.Evolves s
  /-- Something else changes. -/
  | beside {u v : State} (h : s.Evolves u) (same : u.SameLines v) : s.Evolves v
  /-- A recency list is put in another order (R39). -/
  | reordered {u : State} (h : s.Evolves u) (si : SetIdx) (l : List WayIdx)
    (perm : u.dir[si].recency.Perm allWays → l.Perm allWays) :
    s.Evolves { u with dir := setAt u.dir si { u.dir[si] with recency := l } }
  /-- A held line is written, cleaned or shared (R32, R33, R35, R169). -/
  | rewritten {u : State} (h : s.Evolves u) (si : SetIdx) (w : WayIdx) (e : Entry) (x y : Held)
    (before : (u.entry si w).held? = some x) (after : e.held? = some y) (tag : y.tag = x.tag)
    (sharers : ∀ k : Port, y.sharers[k] = true → x.sharers[k] = true ∨ u.ports[k].mode = .coherent true) :
    s.Evolves (u.setEntry si w e)
  /-- A line that is not reserved leaves its way (R46, R120, R170, R171). -/
  | cleared {u : State} (h : s.Evolves u) (si : SetIdx) (w : WayIdx)
    (settled : ∀ tag r i, u.entry si w ≠ .filling tag r i)
    (unreserved : ∀ x, (u.entry si w).held? = some x → u.resOf (lineAt x.tag si) = none) :
    s.Evolves (u.setEntry si w .invalid)
  /-- A line that no way holds is installed DIRTY (R47). -/
  | installed {u : State} (h : s.Evolves u) (si : SetIdx) (w : WayIdx) (x : Held) (vacant : u.entry si w = .invalid)
    (fresh : ∀ v, (u.entry si v).tag? ≠ some x.tag) (alone : x.sharers = PortSet.empty) :
    s.Evolves (u.setEntry si w (.dirty x))
  /-- A way is made FILLING for a line that no way holds, with a FREE slot (R48). -/
  | fillStarted {u : State} (h : s.Evolves u) (q : Request) (w : WayIdx) (i : SlotId)
    (vacant : u.entry (setOf q.txn.line) w = .invalid) (free : u.slots[i] = none)
    (fresh : ∀ v, (u.entry (setOf q.txn.line) v).tag? ≠ some (tagOf q.txn.line)) :
    s.Evolves ((u.setEntry (setOf q.txn.line) w (.filling (tagOf q.txn.line) q.region i)).setSlot i (some (q.fill w)))
  /-- A fill receives a word, is tainted, is joined for its line, or loses a transaction (R54 to R57, R122). -/
  | fillChanged {u : State} (h : s.Evolves u) (i : SlotId) (f g : Fill) (slot : u.slots[i] = some f)
    (line : g.line = f.line) (way : g.way = f.way) (region : g.region = f.region)
    (served : ∀ q ∈ g.served, q ∈ f.served ∨
      ∃ w r, u.entry (setOf q.txn.line) w = .filling (tagOf q.txn.line) r i) :
    s.Evolves (u.setSlot i (some g))
  /-- A fill ends, with its line installed or not (R59, R64, R65). -/
  | fillEnded {u : State} (h : s.Evolves u) (i : SlotId) (f : Fill) (e : Entry) (slot : u.slots[i] = some f)
    (entry : e = .invalid ∨ e = .clean f.installed) :
    s.Evolves ((u.setEntry (setOf f.line) f.way e).setSlot i none)
  /-- Reservations are freed, refreshed, or run on (R82, R85, R87, R88, R93, R94). -/
  | thinned {u : State} (h : s.Evolves u) (res : Vector (Option Reservation) 6) (thins : reservationsOf u.res res) :
    s.Evolves { u with res := res }
  /-- A FREE entry is granted within the limits (R79, R81). -/
  | granted {u : State} (h : s.Evolves u) (i : ResId) (x : Reservation) (free : u.res[i] = none)
    (unreserved : u.resOf x.line = none) (few : u.owned x.owner < 2)
    (held : s.linesSound → ∃ w y, (u.entry (setOf x.line) w).held? = some y ∧ y.tag = tagOf x.line) :
    s.Evolves (u.setRes i x)
  /-- A notice is sent to sharers of a line that have room (R34, R99). -/
  | noticed {u : State} (h : s.Evolves u) (kind : NoticeKind) (l : LineAddr) (S : PortSet)
    (room : ∀ k : Port, S[k] = true → u.notices[k].hasRoom l = true)
    (sharing : ∃ si w, ∀ k : Port, S[k] = true → (u.entry si w).sharers[k] = true) :
    s.Evolves (u.sendNotices kind l S)
  /-- Notices leave their queues, or their timers run on (R103, R104, R107). -/
  | relieved {u : State} (h : s.Evolves u) (notices : Vector NoticeQueue 4)
    (fewer : ∀ k : Port, notices[k].queue.Sublist u.notices[k].queue ∧ (u.notices[k].sound → notices[k].sound)) :
    s.Evolves { u with notices := notices }
  /-- A port leaves every sharer set (R50). -/
  | unshared {u : State} (h : s.Evolves u) (k : Port) : s.Evolves (u.dropSharer k)
  /-- A port's mode is written; a COHERENT, ATTACHED port that is to be another shares nothing (R107, R110, R111). -/
  | modeWritten {u : State} (h : s.Evolves u) (k : Port) (m : Mode)
    (quiet : m = .coherent true ∨ u.ports[k].mode ≠ .coherent true ∨
      u.notices[k].queue = [] ∧ ∀ si w, (u.entry si w).sharers[k] = false) :
    s.Evolves (u.setMode k m)
  /-- Every block is reset (R24, R195). -/
  | emptied {v : State} (dir : v.dir = Vector.replicate 128 DirSet.init) (slots : v.slots = Vector.replicate 4 none)
    (res : v.res = Vector.replicate 6 none) (notices : v.notices = Vector.replicate 4 NoticeQueue.empty) :
    s.Evolves v

/-! ### Entries of the directory -/

/-- An entry after another, or the same, is replaced. -/
theorem setEntry_entry (s : State) (si sj : SetIdx) (w v : WayIdx) (e : Entry) :
    (s.setEntry si w e).entry sj v = if si = sj ∧ w = v then e else s.entry sj v := by
  simp only [State.entry, State.setEntry_dir, setAt_getElem]
  by_cases hi : si = sj
  · subst hi
    simp only [if_true, setAt_getElem, true_and]
  · simp only [hi, if_false, false_and]

@[simp] theorem setEntry_entry_self (s : State) (si : SetIdx) (w : WayIdx) (e : Entry) :
    (s.setEntry si w e).entry si w = e := by
  rw [setEntry_entry, if_pos ⟨rfl, rfl⟩]

/-- A recency list is no part of an entry. -/
theorem reordered_entry (s : State) (si sj : SetIdx) (v : WayIdx) (l : List WayIdx) :
    ({ s with dir := setAt s.dir si { s.dir[si] with recency := l } } : State).entry sj v = s.entry sj v := by
  simp only [State.entry, setAt_getElem]
  split
  · next hi => subst hi; rfl
  · rfl

/-- A port leaves the sharer set of each entry alone (R50). -/
theorem dropSharer_entry (s : State) (k : Port) (si : SetIdx) (w : WayIdx) :
    (s.dropSharer k).entry si w = (s.entry si w).dropSharer k := by
  simp only [State.entry, State.dropSharer, mapAll_getElem, DirSet.dropSharer]

/-- No way of a reset directory holds anything. -/
theorem entry_of_init {s : State} (h : s.dir = Vector.replicate 128 DirSet.init) (si : SetIdx) (w : WayIdx) :
    s.entry si w = .invalid := by
  have hways : ∀ w : WayIdx, DirSet.init.ways[w] = .invalid := by decide
  rw [State.entry, h, show (Vector.replicate 128 DirSet.init)[si] = DirSet.init by simp]
  exact hways w

/-- The ports' modes after one is written. -/
theorem setMode_mode (s : State) (k j : Port) (m : Mode) :
    (s.setMode k m).ports[j].mode = if k = j then m else s.ports[j].mode := by
  rw [State.setMode, State.setPort_ports, setAt_getElem]
  split <;> rfl

@[simp] theorem PortSet.empty_getElem (k : Port) : PortSet.empty[k] = false := by
  simp [PortSet.empty]

@[simp] theorem Entry.invalid_sharers (k : Port) : Entry.invalid.sharers[k] = false := PortSet.empty_getElem k

/-- The sharers of a held line. -/
theorem sharers_of_held {e : Entry} {x : Held} (h : e.held? = some x) : e.sharers = x.sharers := by
  rw [Entry.sharers, h]
  rfl

/-- A way that holds no line has no sharer. -/
theorem sharers_of_not_held {e : Entry} (h : e.held? = none) : e.sharers = PortSet.empty := by
  rw [Entry.sharers, h]
  rfl

/-- A port is a sharer still only if it was one, and is not the one that leaves (R50). -/
theorem dropSharer_sharers {e : Entry} {j k : Port} (h : (e.dropSharer k).sharers[j] = true) :
    e.sharers[j] = true ∧ j ≠ k := by
  have hset (S : PortSet) (hS : (S.erase k)[j] = true) : S[j] = true ∧ j ≠ k := by
    rw [PortSet.erase, setAt_getElem] at hS
    split at hS
    · cases hS
    · next hne => exact ⟨hS, fun hjk => hne hjk.symm⟩
  cases e with
  | clean x | dirty x => exact hset x.sharers h
  | invalid | filling => simp [-Fin.getElem_fin, Entry.dropSharer, Entry.sharers, Entry.held?] at h

/-! ### Recency lists (R39) -/

section Recency

variable {s t : State}

theorem recencyOrdered_of_reset (dir : s.dir = Vector.replicate 128 DirSet.init) : s.recencyOrdered := by
  intro si
  rw [dir, show (Vector.replicate 128 DirSet.init)[si] = DirSet.init by simp]
  exact .refl _

theorem State.recencyOrdered.congr (h : s.recencyOrdered) (hr : ∀ si : SetIdx, t.dir[si].recency = s.dir[si].recency) :
    t.recencyOrdered := fun si => hr si ▸ h si

/-- An entry is no part of a recency list. -/
theorem setEntry_recency (s : State) (si sj : SetIdx) (w : WayIdx) (e : Entry) :
    (s.setEntry si w e).dir[sj].recency = s.dir[sj].recency := by
  rw [State.setEntry_dir, setAt_getElem]
  split
  · next hi => rw [hi]
  · rfl

theorem State.recencyOrdered.setEntry (h : s.recencyOrdered) (si : SetIdx) (w : WayIdx) (e : Entry) :
    (s.setEntry si w e).recencyOrdered := h.congr fun _ => setEntry_recency s si _ w e

/-- A chain of changes keeps each recency list a permutation of the four ways. -/
theorem State.Evolves.recencyOrdered (h : s.Evolves t) (hs : s.recencyOrdered) : t.recencyOrdered := by
  induction h with
  | refl => exact hs
  | beside _ same ih => exact ih.congr fun si => by rw [same.dir]
  | @reordered u _ si l perm ih =>
    intro sj
    simp only [setAt_getElem]
    split
    · exact perm (ih si)
    · exact ih sj
  | rewritten | cleared | installed => exact State.recencyOrdered.setEntry ‹_› _ _ _
  | fillStarted | fillEnded => exact (State.recencyOrdered.setEntry ‹_› _ _ _).congr fun _ => rfl
  | fillChanged | thinned | granted | noticed | relieved | modeWritten =>
    exact State.recencyOrdered.congr ‹_› fun _ => rfl
  | unshared _ k ih => exact ih.congr fun si => by rw [State.dropSharer, mapAll_getElem]; rfl
  | emptied dir => exact recencyOrdered_of_reset dir

end Recency

/-! ### Sharers and notices (R49, R96, R104) -/

section Coherent

variable {s t : State}

/-- Where no queue and no mode changes, a new sharer has to be COHERENT and ATTACHED (R49). -/
theorem State.coherent.withSharers (h : s.coherent) (hn : t.notices = s.notices)
    (hm : ∀ k : Port, t.ports[k].mode = s.ports[k].mode)
    (hs : ∀ (si : SetIdx) (w : WayIdx) (k : Port), (t.entry si w).sharers[k] = true →
      (s.entry si w).sharers[k] = true ∨ s.ports[k].mode = .coherent true) : t.coherent := by
  obtain ⟨hqueues, hsharers⟩ := h
  refine ⟨fun k => by rw [hn, hm]; exact hqueues k, fun si w k hk => ?_⟩
  rw [hm]
  obtain hk | hk := hs si w k hk
  · exact hsharers si w k hk
  · exact hk

theorem State.coherent.setEntry (h : s.coherent) (si : SetIdx) (w : WayIdx) (e : Entry)
    (he : ∀ k : Port, e.sharers[k] = true → (s.entry si w).sharers[k] = true ∨ s.ports[k].mode = .coherent true) :
    (s.setEntry si w e).coherent := by
  refine h.withSharers rfl (fun _ => rfl) fun sj v k hk => ?_
  rw [setEntry_entry] at hk
  split at hk
  · next hi =>
    obtain ⟨rfl, rfl⟩ := hi
    exact he k hk
  · exact .inl hk

theorem empty_sound : NoticeQueue.empty.sound := by
  simp [NoticeQueue.sound, NoticeQueue.empty]

/-- A hub whose blocks are reset has no notice and no sharer. -/
theorem coherent_of_reset (dir : s.dir = Vector.replicate 128 DirSet.init)
    (notices : s.notices = Vector.replicate 4 NoticeQueue.empty) : s.coherent := by
  refine ⟨fun k => ?_, fun si w k hk => ?_⟩
  · rw [notices, show (Vector.replicate 4 NoticeQueue.empty)[k] = NoticeQueue.empty by simp]
    exact ⟨empty_sound, fun hq => absurd rfl hq⟩
  · rw [entry_of_init dir, Entry.invalid_sharers] at hk
    cases hk

/-- A queue with room takes a notice (R34, R99, R104). -/
theorem NoticeQueue.sound.sent {q : NoticeQueue} (h : q.sound) (kind : NoticeKind) {l : LineAddr} (time : Nat)
    (room : q.hasRoom l = true) : (q.sent kind l time).sound := by
  unfold NoticeQueue.sent
  split
  · exact h
  · next hnames =>
    obtain ⟨-, hnodup, htimer⟩ := h
    have hlength : q.queue.length < 4 := by simpa [NoticeQueue.hasRoom, hnames] using room
    refine ⟨by simpa using hlength, ?_, ?_⟩
    · have hnew : ∀ n ∈ q.queue, n.line ≠ l := by simpa [NoticeQueue.names] using hnames
      rw [List.map_append, List.map_singleton, List.nodup_append]
      refine ⟨hnodup, List.nodup_singleton l, fun a ha b hb => ?_⟩
      obtain ⟨n, hn, rfl⟩ := List.mem_map.mp ha
      rw [List.mem_singleton.mp hb]
      exact hnew n hn
    · cases hq : q.queue with
      | nil => simp
      | cons n ns => simp [htimer, hq]

/-- The queues after a notice is sent. -/
theorem sendNotices_getElem (s : State) (kind : NoticeKind) (l : LineAddr) (S : PortSet) (k : Port) :
    (s.sendNotices kind l S).notices[k] =
      if S[k] then s.notices[k].sent kind l s.noticeTime.toNat else s.notices[k] := by
  simp [State.sendNotices_notices]

/-- Notices sent to sharers with room keep the queues sound (R34, R96). -/
theorem State.coherent.sendNotices (h : s.coherent) (kind : NoticeKind) (l : LineAddr) (S : PortSet)
    (room : ∀ k : Port, S[k] = true → s.notices[k].hasRoom l = true)
    (sharing : ∃ si w, ∀ k : Port, S[k] = true → (s.entry si w).sharers[k] = true) :
    (s.sendNotices kind l S).coherent := by
  obtain ⟨hqueues, hsharers⟩ := h
  obtain ⟨si, w, sharing⟩ := sharing
  refine ⟨fun k => ?_, hsharers⟩
  rw [sendNotices_getElem]
  split
  · next hk => exact ⟨(hqueues k).1.sent kind _ (room k hk), fun _ => hsharers si w k (sharing k hk)⟩
  · exact hqueues k

/-- A mode written keeps the queues of a port that is not COHERENT and ATTACHED empty (R96, R107). -/
theorem State.coherent.setMode (h : s.coherent) (k : Port) (m : Mode)
    (quiet : m = .coherent true ∨ s.ports[k].mode ≠ .coherent true ∨
      s.notices[k].queue = [] ∧ ∀ si w, (s.entry si w).sharers[k] = false) : (s.setMode k m).coherent := by
  obtain ⟨hqueues, hsharers⟩ := h
  have hkept (j : Port) (hj : s.ports[j].mode = .coherent true)
      (hbusy : s.notices[j].queue ≠ [] ∨ ∃ si w, (s.entry si w).sharers[j] = true) :
      (s.setMode k m).ports[j].mode = .coherent true := by
    rw [setMode_mode]
    split
    · next hk =>
      subst hk
      obtain hm | hk | ⟨hempty, hnone⟩ := quiet
      · exact hm
      · exact absurd hj hk
      · obtain hq | ⟨si, w, hshare⟩ := hbusy
        · exact absurd hempty hq
        · rw [hnone] at hshare
          cases hshare
    · exact hj
  refine ⟨fun j => ⟨(hqueues j).1, fun hq => ?_⟩, fun si w j hj => ?_⟩
  · exact hkept j ((hqueues j).2 hq) (.inl hq)
  · exact hkept j (hsharers si w j hj) (.inr ⟨si, w, hj⟩)

/-- A chain of changes keeps the notice queues sound and every sharer COHERENT and ATTACHED. -/
theorem State.Evolves.coherent (h : s.Evolves t) (hs : s.coherent) : t.coherent := by
  have hinstalled (f : Fill) (e : Entry) (he : e = .invalid ∨ e = .clean f.installed) (k : Port) :
      e.sharers[k] = false := by
    obtain rfl | rfl := he <;> exact PortSet.empty_getElem k
  induction h with
  | refl => exact hs
  | @beside u v _ same ih =>
    refine ih.withSharers same.notices same.mode fun si w k hk => .inl ?_
    rwa [State.entry, same.dir] at hk
  | reordered _ si l _ ih =>
    exact ih.withSharers rfl (fun _ => rfl) fun sj w k hk => .inl (by rwa [reordered_entry] at hk)
  | rewritten _ si w e x y before after _ sharers ih =>
    refine ih.setEntry si w e fun k hk => ?_
    rw [sharers_of_held before]
    exact sharers k (sharers_of_held after ▸ hk)
  | cleared _ si w _ _ ih => exact ih.setEntry si w _ fun k hk => nomatch (Entry.invalid_sharers k).symm.trans hk
  | installed _ si w x _ _ alone ih =>
    refine ih.setEntry si w _ fun k hk => ?_
    rw [show (Entry.dirty x).sharers = x.sharers from rfl, alone, PortSet.empty_getElem] at hk
    cases hk
  | fillStarted _ q w i _ _ _ ih =>
    refine State.coherent.withSharers (ih.setEntry _ w _ fun k hk => ?_) rfl (fun _ => rfl) fun _ _ _ => .inl
    rw [sharers_of_not_held rfl, PortSet.empty_getElem] at hk
    cases hk
  | fillEnded _ i f e _ entry ih =>
    refine State.coherent.withSharers (ih.setEntry _ f.way e fun k hk => ?_) rfl (fun _ => rfl) fun _ _ _ => .inl
    rw [hinstalled f e entry k] at hk
    cases hk
  | fillChanged | thinned | granted => exact State.coherent.withSharers ‹_› rfl (fun _ => rfl) fun _ _ _ => .inl
  | noticed _ kind l S room sharing ih => exact ih.sendNotices kind l S room sharing
  | relieved _ notices fewer ih =>
    refine ⟨fun k => ?_, ih.2⟩
    obtain ⟨hsub, hsound⟩ := fewer k
    obtain ⟨hk, hmode⟩ := ih.1 k
    refine ⟨hsound hk, fun hq => hmode fun hempty => hq ?_⟩
    rw [hempty] at hsub
    exact List.sublist_nil.mp hsub
  | unshared _ k ih =>
    refine ih.withSharers (State.dropSharer_notices _ k) (fun j => by rw [State.dropSharer_ports])
      fun si w j hj => .inl ?_
    rw [dropSharer_entry] at hj
    exact (dropSharer_sharers hj).1
  | modeWritten _ k m quiet ih => exact ih.setMode k m quiet
  | emptied dir _ _ notices => exact coherent_of_reset dir notices

end Coherent

/-! ### Reservation limits (R77) -/

section Reservations

variable {s t : State}

theorem reserves_iff {l : LineAddr} {r : Option Reservation} : reserves l r = true ↔ ∃ x, r = some x ∧ x.line = l := by
  cases r <;> simp [reserves]

theorem ownedBy_iff {k : Port} {r : Option Reservation} : ownedBy k r = true ↔ ∃ x, r = some x ∧ x.owner = k := by
  cases r <;> simp [ownedBy]

theorem mem_allRes (e : ResId) : e ∈ allRes := by
  revert e
  decide

/-- No entry names a line that is not reserved (R78). -/
theorem resOf_eq_none {l : LineAddr} : s.resOf l = none ↔ ∀ e : ResId, reserves l s.res[e] = false := by
  simp [-Fin.getElem_fin, State.resOf, List.find?_eq_none, mem_allRes]

/-- Freed, refreshed and running reservations keep the limits. -/
theorem State.reservationsSound.thinned (h : s.reservationsSound) (ht : reservationsOf s.res t.res) :
    t.reservationsSound := by
  obtain ⟨hlines, hfew⟩ := h
  have hreserves (e : ResId) (l : LineAddr) (he : reserves l t.res[e] = true) : reserves l s.res[e] = true := by
    obtain ⟨x, hx, rfl⟩ := reserves_iff.mp he
    obtain ⟨y, hy, hline, -⟩ := ht e x hx
    exact reserves_iff.mpr ⟨y, hy, hline⟩
  have howned (e : ResId) (k : Port) (he : ownedBy k t.res[e] = true) : ownedBy k s.res[e] = true := by
    obtain ⟨x, hx, rfl⟩ := ownedBy_iff.mp he
    obtain ⟨y, hy, -, howner⟩ := ht e x hx
    exact ownedBy_iff.mpr ⟨y, hy, howner⟩
  refine ⟨fun i j l hi hj => hlines i j l (hreserves i l hi) (hreserves j l hj), fun k => ?_⟩
  exact ((List.monotone_filter_right allRes fun e he => howned e k he).length_le).trans (hfew k)

/-- A grant adds at most its entry to a port's own (R78). -/
theorem owned_setRes (s : State) (i : ResId) (x : Reservation) (k : Port) :
    (s.setRes i x).owned k ≤ s.owned k + if x.owner = k then 1 else 0 := by
  have hnodup : allRes.Nodup := by decide
  have hsub : (allRes.filter fun e => ownedBy k (s.setRes i x).res[e]) ⊆
      (if x.owner = k then [i] else []) ++ allRes.filter fun e => ownedBy k s.res[e] := by
    intro e he
    rw [List.mem_filter, State.setRes_res, setAt_getElem] at he
    obtain ⟨hmem, hown⟩ := he
    rw [List.mem_append]
    split at hown
    · next hi =>
      have hk : x.owner = k := by simpa [ownedBy] using hown
      simp [hi, hk]
    · exact .inr (List.mem_filter.mpr ⟨hmem, hown⟩)
  have hlength := (List.Nodup.subperm (hnodup.filter _) hsub).length_le
  rw [List.length_append] at hlength
  unfold State.owned
  refine hlength.trans ?_
  split
  · exact (Nat.add_comm _ _).le
  · exact (Nat.zero_add _).le

theorem State.reservationsSound.granted (h : s.reservationsSound) {i : ResId} {x : Reservation}
    (unreserved : s.resOf x.line = none) (few : s.owned x.owner < 2) : (s.setRes i x).reservationsSound := by
  obtain ⟨hlines, hfew⟩ := h
  have hold (e : ResId) (l : LineAddr) (he : reserves l (s.setRes i x).res[e] = true) :
      e = i ∧ l = x.line ∨ reserves l s.res[e] = true := by
    rw [State.setRes_res, setAt_getElem] at he
    split at he
    · next hi =>
      have hl : x.line = l := by simpa [reserves] using he
      exact .inl ⟨hi.symm, hl.symm⟩
    · exact .inr he
  have hnone := resOf_eq_none.mp unreserved
  refine ⟨fun a b l ha hb => ?_, fun k => ?_⟩
  · have hnew (e : ResId) (he : reserves x.line s.res[e] = true) : False := nomatch (hnone e).symm.trans he
    obtain ⟨ha, hl⟩ | ha := hold a l ha <;> obtain ⟨hb, hl'⟩ | hb := hold b l hb
    · rw [ha, hb]
    · exact (hnew b (hl ▸ hb)).elim
    · exact (hnew a (hl' ▸ ha)).elim
    · exact hlines a b l ha hb
  · refine (owned_setRes s i x k).trans ?_
    split
    · next hk => exact hk ▸ few
    · exact hfew k

theorem reservationsOf_refl (res : Vector (Option Reservation) 6) : reservationsOf res res :=
  fun _ x hx => ⟨x, hx, rfl, rfl⟩

/-- A chain of changes keeps the reservation limits. -/
theorem State.Evolves.reservationsSound (h : s.Evolves t) (hs : s.reservationsSound) : t.reservationsSound := by
  induction h with
  | refl => exact hs
  | beside _ same ih => exact ih.thinned (same.res ▸ reservationsOf_refl _)
  | thinned _ res thins ih => exact ih.thinned thins
  | granted _ i x _ unreserved few _ ih => exact ih.granted unreserved few
  | emptied _ _ res =>
    refine hs.thinned fun e x hx => ?_
    rw [res, show (Vector.replicate 6 (none : Option Reservation))[e] = none by simp] at hx
    cases hx
  | unshared _ k ih =>
    refine ih.thinned ?_
    rw [State.dropSharer_res]
    exact reservationsOf_refl _
  | _ => exact State.reservationsSound.thinned ‹_› (reservationsOf_refl _)

end Reservations

end Sys2Proof.Machine

namespace Sys2Proof.Machine

/-! ### Line addresses -/

/-- The index bits of a line address name its set. -/
theorem ofNat_setOf (l : LineAddr) : BitVec.ofNat 7 (setOf l).val = l.extractLsb' 0 7 :=
  BitVec.eq_of_toNat_eq (by simp [setOf])

/-- A line address is its tag with its set index. -/
theorem lineAt_tagOf_setOf (l : LineAddr) : lineAt (tagOf l) (setOf l) = l := by
  rw [lineAt, ofNat_setOf, tagOf]
  exact BitVec.extractLsb'_append_extractLsb'_eq_extractLsb' (by decide) |>.trans (BitVec.extractLsb'_eq_self)

theorem setOf_lineAt (tag : Tag) (si : SetIdx) : setOf (lineAt tag si) = si := by
  have hlow : (lineAt tag si).extractLsb' 0 7 = BitVec.ofNat 7 si.val := BitVec.extractLsb'_append_eq_right
  apply Fin.ext
  simp [setOf, hlow]

/-! ### The directory, the fill slots and the Reservation Table (R26, R53, R77) -/

/-- What an entry says of the line it is for: its tag and, while it is FILLING, its region and slot. -/
def Entry.shape : Entry → Option (Tag × Option (RegionId × SlotId))
  | .invalid => none
  | .clean x => some (x.tag, none)
  | .dirty x => some (x.tag, none)
  | .filling tag r i => some (tag, some (r, i))

/-- What a way says of the line it is for. -/
def State.shape (s : State) (si : SetIdx) (w : WayIdx) : Option (Tag × Option (RegionId × SlotId)) :=
  (s.entry si w).shape

theorem Entry.tag?_eq_some {e : Entry} {tag : Tag} : e.tag? = some tag ↔ ∃ a, e.shape = some (tag, a) := by
  cases e <;> simp [Entry.tag?, Entry.shape]

theorem Entry.shape_filling {e : Entry} {tag : Tag} {r : RegionId} {i : SlotId} :
    e.shape = some (tag, some (r, i)) ↔ e = .filling tag r i := by
  cases e <;> simp [Entry.shape]

theorem Entry.shape_held {e : Entry} {tag : Tag} :
    e.shape = some (tag, none) ↔ ∃ x, e.held? = some x ∧ x.tag = tag := by
  cases e <;> simp [Entry.shape, Entry.held?]

/-- `State.linesSound` in terms of the shapes of the ways. -/
structure State.LinesAgree (s : State) : Prop where
  unique : ∀ (si : SetIdx) (v w : WayIdx) (tag : Tag) (a b : Option (RegionId × SlotId)),
    s.shape si v = some (tag, a) → s.shape si w = some (tag, b) → v = w
  slot : ∀ (i : SlotId) (f : Fill), s.slots[i] = some f →
    s.shape (setOf f.line) f.way = some (tagOf f.line, some (f.region, i))
  served : ∀ (i : SlotId) (f : Fill), s.slots[i] = some f → ∀ q ∈ f.served, q.txn.line = f.line
  filling : ∀ (si : SetIdx) (w : WayIdx) (tag : Tag) (r : RegionId) (i : SlotId),
    s.shape si w = some (tag, some (r, i)) →
      ∃ f, s.slots[i] = some f ∧ f.line = lineAt tag si ∧ f.way = w ∧ f.region = r
  reserved : ∀ (e : ResId) (x : Reservation), s.res[e] = some x →
    ∃ w, s.shape (setOf x.line) w = some (tagOf x.line, none)

theorem linesSound_iff {s : State} : s.linesSound ↔ s.LinesAgree := by
  unfold State.linesSound
  constructor
  · rintro ⟨hunique, hslots, hfilling, hreserved⟩
    refine ⟨fun si v w tag a b hv hw => ?_, fun i f hf => ?_, fun i f hf => ?_, fun si w tag r i hw => ?_,
      fun e x hx => ?_⟩
    · exact hunique si v w tag (Entry.tag?_eq_some.mpr ⟨a, hv⟩) (Entry.tag?_eq_some.mpr ⟨b, hw⟩)
    · exact Entry.shape_filling.mpr (hslots i f hf).1
    · exact (hslots i f hf).2
    · exact hfilling si w tag r i (Entry.shape_filling.mp hw)
    · obtain ⟨w, y, hy, htag⟩ := hreserved e x hx
      exact ⟨w, Entry.shape_held.mpr ⟨y, hy, htag⟩⟩
  · intro h
    refine ⟨fun si v w tag hv hw => ?_, fun i f hf => ?_, fun si w tag r i hw => ?_, fun e x hx => ?_⟩
    · obtain ⟨a, ha⟩ := Entry.tag?_eq_some.mp hv
      obtain ⟨b, hb⟩ := Entry.tag?_eq_some.mp hw
      exact h.unique si v w tag a b ha hb
    · exact ⟨Entry.shape_filling.mp (h.slot i f hf), h.served i f hf⟩
    · exact h.filling si w tag r i (Entry.shape_filling.mpr hw)
    · obtain ⟨w, hw⟩ := h.reserved e x hx
      obtain ⟨y, hy, htag⟩ := Entry.shape_held.mp hw
      exact ⟨w, y, hy, htag⟩

section Lines

variable {s t : State}

/-- What changes no shape and no slot, and makes no reservation, keeps the agreement. -/
theorem State.LinesAgree.congr (h : s.LinesAgree) (hshape : ∀ si w, t.shape si w = s.shape si w)
    (hslots : t.slots = s.slots) (hres : reservationsOf s.res t.res) : t.LinesAgree where
  unique si v w := by
    rw [hshape, hshape]
    exact h.unique si v w
  slot i f := by
    rw [hslots, hshape]
    exact h.slot i f
  served i f := by
    rw [hslots]
    exact h.served i f
  filling si w := by
    rw [hslots, hshape]
    exact h.filling si w
  reserved e x hx := by
    obtain ⟨y, hy, hline, -⟩ := hres e x hx
    simp only [hshape, ← hline]
    exact h.reserved e y hy

theorem setEntry_shape (s : State) (si sj : SetIdx) (w v : WayIdx) (e : Entry) :
    (s.setEntry si w e).shape sj v = if si = sj ∧ w = v then e.shape else s.shape sj v := by
  unfold State.shape
  rw [setEntry_entry]
  split <;> rfl

/-- The place of a fill in the directory. -/
def Fill.standsAt (f : Fill) (si : SetIdx) (w : WayIdx) : Prop := si = setOf f.line ∧ w = f.way

/-- The shape of one way changes, and with it the slot of a fill that stands there. -/
theorem State.LinesAgree.setShape (h : s.LinesAgree) {si : SetIdx} {w : WayIdx}
    {a : Option (Tag × Option (RegionId × SlotId))}
    (hshape : ∀ sj v, t.shape sj v = if si = sj ∧ w = v then a else s.shape sj v) (hres : t.res = s.res)
    (hfresh : ∀ tag b, a = some (tag, b) → ∀ v, v ≠ w → ∀ c, s.shape si v ≠ some (tag, c))
    (hfree : ∀ tag, s.shape si w = some (tag, none) → s.resOf (lineAt tag si) = none)
    (hkept : ∀ (j : SlotId) (f : Fill), s.slots[j] = some f → ¬f.standsAt si w → t.slots[j] = some f)
    (hslots : ∀ (j : SlotId) (f : Fill), t.slots[j] = some f → (s.slots[j] = some f ∧ ¬f.standsAt si w) ∨
      f.standsAt si w ∧ a = some (tagOf f.line, some (f.region, j)) ∧ ∀ q ∈ f.served, q.txn.line = f.line)
    (hfilling : ∀ tag r i, a = some (tag, some (r, i)) →
      ∃ f, t.slots[i] = some f ∧ f.line = lineAt tag si ∧ f.way = w ∧ f.region = r) : t.LinesAgree where
  unique sj v x tag b c hv hx := by
    rw [hshape] at hv hx
    split at hv <;> split at hx
    · next hi hj => rw [← hi.2, ← hj.2]
    · next hi hj =>
      obtain ⟨rfl, rfl⟩ := hi
      exact absurd hx (hfresh tag b hv x (fun hxw => hj ⟨rfl, hxw.symm⟩) c)
    · next hi hj =>
      obtain ⟨rfl, rfl⟩ := hj
      exact absurd hv (hfresh tag c hx v (fun hvw => hi ⟨rfl, hvw.symm⟩) b)
    · exact h.unique sj v x tag b c hv hx
  slot j f hf := by
    rw [hshape]
    obtain ⟨hold, hne⟩ | ⟨hst, ha, -⟩ := hslots j f hf
    · exact (if_neg hne).trans (h.slot j f hold)
    · exact (if_pos hst).trans ha
  served j f hf := by
    obtain ⟨hold, -⟩ | ⟨-, -, hserved⟩ := hslots j f hf
    · exact h.served j f hold
    · exact hserved
  filling sj v tag r i hv := by
    rw [hshape] at hv
    split at hv
    · next hi =>
      obtain ⟨rfl, rfl⟩ := hi
      exact hfilling tag r i hv
    · next hne =>
      obtain ⟨f, hf, hline, hway, hregion⟩ := h.filling sj v tag r i hv
      refine ⟨f, hkept i f hf fun hst => hne ?_, hline, hway, hregion⟩
      rw [Fill.standsAt, hline, setOf_lineAt, hway] at hst
      exact hst
  reserved e x hx := by
    rw [hres] at hx
    obtain ⟨v, hv⟩ := h.reserved e x hx
    refine ⟨v, ?_⟩
    rw [hshape, if_neg]
    · exact hv
    · rintro ⟨rfl, rfl⟩
      have hnone := resOf_eq_none.mp (hfree _ hv) e
      rw [lineAt_tagOf_setOf, hx] at hnone
      simp [reserves] at hnone

/-- A fill stands at a way that is FILLING for it. -/
theorem State.LinesAgree.shape_of_standsAt (h : s.LinesAgree) {j : SlotId} {f : Fill} (hf : s.slots[j] = some f)
    {si : SetIdx} {w : WayIdx} (hst : f.standsAt si w) : s.shape si w = some (tagOf f.line, some (f.region, j)) := by
  obtain ⟨rfl, rfl⟩ := hst
  exact h.slot j f hf

/-- A way that is not FILLING changes for no fill. -/
theorem State.LinesAgree.setEntry (h : s.LinesAgree) {si : SetIdx} {w : WayIdx} {e : Entry}
    (hsettled : ∀ tag x, s.shape si w ≠ some (tag, some x))
    (hfresh : ∀ tag b, e.shape = some (tag, b) → b = none ∧ ∀ v, v ≠ w → ∀ c, s.shape si v ≠ some (tag, c))
    (hfree : ∀ tag, s.shape si w = some (tag, none) → s.resOf (lineAt tag si) = none) :
    (s.setEntry si w e).LinesAgree := by
  refine h.setShape (fun sj v => setEntry_shape s si sj w v e) rfl (fun tag b hb => (hfresh tag b hb).2) hfree
    (fun _ _ hf _ => hf) (fun j f hf => .inl ⟨hf, fun hst => ?_⟩) fun tag r i hi => nomatch (hfresh _ _ hi).1
  exact hsettled _ _ (h.shape_of_standsAt hf hst)

/-- A fill is allocated to an INVALID way and a FREE slot (R48). -/
theorem State.LinesAgree.startFill (h : s.LinesAgree) {q : Request} {w : WayIdx} {i : SlotId}
    (vacant : s.entry (setOf q.txn.line) w = .invalid) (free : s.slots[i] = none)
    (fresh : ∀ v, (s.entry (setOf q.txn.line) v).tag? ≠ some (tagOf q.txn.line)) :
    ((s.setEntry (setOf q.txn.line) w (.filling (tagOf q.txn.line) q.region i)).setSlot i (some (q.fill w))).LinesAgree
    := by
  have hinvalid : s.shape (setOf q.txn.line) w = none := by rw [State.shape, vacant]; rfl
  refine h.setShape (fun sj v => setEntry_shape s _ sj w v _) rfl ?_ ?_ ?_ ?_ ?_
  · rintro tag b hb v - c hc
    obtain ⟨rfl, -⟩ := Prod.mk.inj (Option.some.inj hb)
    exact fresh v (Entry.tag?_eq_some.mpr ⟨c, hc⟩)
  · intro tag htag
    rw [hinvalid] at htag
    cases htag
  · intro j f hf _
    rw [setSlot_slots_ne _ (fun hj => by subst hj; rw [free] at hf; cases hf)]
    exact hf
  · intro j f hf
    by_cases hj : j = i
    · subst hj
      rw [setSlot_slots_self] at hf
      obtain rfl := Option.some.inj hf
      refine .inr ⟨⟨rfl, rfl⟩, rfl, fun x hx => ?_⟩
      have hx : x = q := by simpa [Fill.served, Request.fill] using hx
      rw [hx]
      rfl
    · rw [setSlot_slots_ne _ hj] at hf
      refine .inl ⟨hf, fun hst => ?_⟩
      have hbusy := h.shape_of_standsAt hf hst
      rw [hinvalid] at hbusy
      cases hbusy
  · intro tag r j hj
    obtain ⟨rfl, hrj⟩ := Prod.mk.inj (Option.some.inj hj)
    obtain ⟨rfl, rfl⟩ := Prod.mk.inj (Option.some.inj hrj)
    exact ⟨q.fill w, setSlot_slots_self _ _ _, (lineAt_tagOf_setOf _).symm, rfl, rfl⟩

/-- A fill ends and leaves its way INVALID, or CLEAN with its line (R59, R64, R65). -/
theorem State.LinesAgree.endFill (h : s.LinesAgree) {i : SlotId} {f : Fill} (slot : s.slots[i] = some f) {e : Entry}
    (he : e = .invalid ∨ e = .clean f.installed) :
    ((s.setEntry (setOf f.line) f.way e).setSlot i none).LinesAgree := by
  have hshape : ∀ tag b, e.shape = some (tag, b) → tag = tagOf f.line ∧ b = none := by
    intro tag b hb
    obtain rfl | rfl := he
    · cases hb
    · obtain ⟨rfl, rfl⟩ := Prod.mk.inj (Option.some.inj hb)
      exact ⟨rfl, rfl⟩
  have hown := h.slot i f slot
  refine h.setShape (fun sj v => setEntry_shape s _ sj f.way v e) rfl ?_ ?_ ?_ ?_ ?_
  · intro tag b hb v hv c hc
    obtain ⟨rfl, -⟩ := hshape tag b hb
    exact hv (h.unique _ v f.way _ c _ hc hown)
  · intro tag htag
    rw [hown] at htag
    cases htag
  · intro j g hg hst
    rw [setSlot_slots_ne]
    · exact hg
    · rintro rfl
      obtain rfl := Option.some.inj (slot.symm.trans hg)
      exact hst ⟨rfl, rfl⟩
  · intro j g hg
    by_cases hj : j = i
    · subst hj
      rw [setSlot_slots_self] at hg
      cases hg
    · rw [setSlot_slots_ne _ hj] at hg
      refine .inl ⟨hg, fun hst => hj ?_⟩
      have hboth := (h.shape_of_standsAt hg hst).symm.trans hown
      simp only [Option.some.injEq, Prod.mk.injEq] at hboth
      exact hboth.2.2
  · intro tag r j hj
    cases (hshape _ _ hj).2

/-- A fill changes but for its line, its way and its region (R53). -/
theorem State.LinesAgree.changeFill (h : s.LinesAgree) {i : SlotId} {f g : Fill} (slot : s.slots[i] = some f)
    (line : g.line = f.line) (way : g.way = f.way) (region : g.region = f.region)
    (served : ∀ q ∈ g.served, q.txn.line = f.line) : (s.setSlot i (some g)).LinesAgree := by
  have hslots (j : SlotId) (x : Fill) (hx : (s.setSlot i (some g)).slots[j] = some x) :
      j = i ∧ x = g ∨ s.slots[j] = some x := by
    by_cases hj : j = i
    · subst hj
      rw [setSlot_slots_self] at hx
      exact .inl ⟨rfl, (Option.some.inj hx).symm⟩
    · rw [setSlot_slots_ne _ hj] at hx
      exact .inr hx
  refine ⟨h.unique, fun j x hx => ?_, fun j x hx => ?_, fun si w tag r j hj => ?_, h.reserved⟩
  · obtain ⟨rfl, rfl⟩ | hx := hslots j x hx
    · rw [line, way, region]
      exact h.slot j f slot
    · exact h.slot j x hx
  · obtain ⟨rfl, rfl⟩ | hx := hslots j x hx
    · rw [line]
      exact served
    · exact h.served j x hx
  · obtain ⟨x, hx, hline, hway, hregion⟩ := h.filling si w tag r j hj
    by_cases hji : j = i
    · subst hji
      obtain rfl := Option.some.inj (slot.symm.trans hx)
      exact ⟨g, setSlot_slots_self _ _ _, line.trans hline, way.trans hway, region.trans hregion⟩
    · exact ⟨x, (setSlot_slots_ne _ hji _).trans hx, hline, hway, hregion⟩

/-- A reservation is granted for a line that is held (R77, R81). -/
theorem State.LinesAgree.grant (h : s.LinesAgree) (i : ResId) {x : Reservation}
    (held : ∃ w y, (s.entry (setOf x.line) w).held? = some y ∧ y.tag = tagOf x.line) : (s.setRes i x).LinesAgree := by
  refine ⟨h.unique, h.slot, h.served, h.filling, fun e y hy => ?_⟩
  rw [State.setRes_res, setAt_getElem] at hy
  split at hy
  · obtain rfl := Option.some.inj hy
    obtain ⟨w, y, hy, htag⟩ := held
    exact ⟨w, Entry.shape_held.mpr ⟨y, hy, htag⟩⟩
  · exact h.reserved e y hy

/-- Nothing is held, filled or reserved in a hub whose blocks are reset. -/
theorem linesAgree_of_reset (dir : s.dir = Vector.replicate 128 DirSet.init) (slots : s.slots = Vector.replicate 4 none)
    (res : s.res = Vector.replicate 6 none) : s.LinesAgree := by
  have hshape (si : SetIdx) (w : WayIdx) : s.shape si w = none := by rw [State.shape, entry_of_init dir]; rfl
  have hslot (i : SlotId) : s.slots[i] = none := by rw [slots]; simp
  have hres (e : ResId) : s.res[e] = none := by rw [res]; simp
  refine ⟨fun si v w tag a b hv => ?_, fun i f hf => ?_, fun i f hf => ?_, fun si w tag r i hw => ?_, fun e x hx => ?_⟩
  · exact nomatch (hshape si v).symm.trans hv
  · exact nomatch (hslot i).symm.trans hf
  · exact nomatch (hslot i).symm.trans hf
  · exact nomatch (hshape si w).symm.trans hw
  · exact nomatch (hres e).symm.trans hx

theorem dropSharer_shape (k : Port) (e : Entry) : (e.dropSharer k).shape = e.shape := by
  cases e <;> rfl

/-- A chain of changes keeps the directory, the fill slots and the Reservation Table in agreement. -/
theorem State.Evolves.linesAgree (h : s.Evolves t) (hs : s.LinesAgree) : t.LinesAgree := by
  induction h with
  | refl => exact hs
  | beside _ same ih =>
    exact ih.congr (fun si w => by simp only [State.shape, State.entry, same.dir]) same.slots
      (same.res ▸ reservationsOf_refl _)
  | reordered _ si l _ ih =>
    exact ih.congr (fun sj w => by simp only [State.shape, reordered_entry]) rfl (reservationsOf_refl _)
  | @rewritten u _ si w e x y before after tag _ ih =>
    refine ih.congr (fun sj v => ?_) rfl (reservationsOf_refl _)
    rw [setEntry_shape]
    split
    · next hi =>
      obtain ⟨rfl, rfl⟩ := hi
      have hx : u.shape si w = some (x.tag, none) := Entry.shape_held.mpr ⟨x, before, rfl⟩
      rw [hx]
      exact Entry.shape_held.mpr ⟨y, after, tag⟩
    · rfl
  | cleared _ si w settled unreserved ih =>
    refine ih.setEntry (fun tag x hx => settled tag x.1 x.2 (Entry.shape_filling.mp hx)) (fun _ _ hb => nomatch hb) ?_
    intro tag htag
    obtain ⟨x, hx, rfl⟩ := Entry.shape_held.mp htag
    exact unreserved x hx
  | @installed u _ si w x vacant fresh _ ih =>
    have hinvalid : u.shape si w = none := by rw [State.shape, vacant]; rfl
    refine ih.setEntry (fun tag y => by rw [hinvalid]; nofun) (fun tag b hb => ?_) fun tag => by rw [hinvalid]; nofun
    obtain ⟨rfl, rfl⟩ := Prod.mk.inj (Option.some.inj hb)
    exact ⟨rfl, fun v _ c hc => fresh v (Entry.tag?_eq_some.mpr ⟨c, hc⟩)⟩
  | fillStarted _ q w i vacant free fresh ih => exact ih.startFill vacant free fresh
  | fillChanged _ i f g slot line way region served ih =>
    refine ih.changeFill slot line way region fun q hq => ?_
    obtain hold | ⟨w, r, hw⟩ := served q hq
    · exact ih.served i f slot q hold
    · obtain ⟨x, hx, hline, -⟩ := ih.filling _ w _ r i (Entry.shape_filling.mpr hw)
      obtain rfl := Option.some.inj (slot.symm.trans hx)
      rw [hline, lineAt_tagOf_setOf]
  | fillEnded _ i f e slot entry ih => exact ih.endFill slot entry
  | thinned _ res thins ih => exact ih.congr (fun _ _ => rfl) rfl thins
  | granted _ i x _ _ _ held ih => exact ih.grant i (held (linesSound_iff.mpr hs))
  | noticed _ _ _ _ _ _ ih | relieved _ _ _ ih | modeWritten _ _ _ _ ih =>
    exact ih.congr (fun _ _ => rfl) rfl (reservationsOf_refl _)
  | @unshared u _ k ih =>
    refine ih.congr (fun si w => ?_) (State.dropSharer_slots u k) ?_
    · rw [State.shape, dropSharer_entry, dropSharer_shape]
      rfl
    · rw [State.dropSharer_res]
      exact reservationsOf_refl _
  | emptied dir slots res _ => exact linesAgree_of_reset dir slots res

theorem State.Evolves.linesSound (h : s.Evolves t) (hs : s.linesSound) : t.linesSound :=
  linesSound_iff.mpr (h.linesAgree (linesSound_iff.mp hs))

end Lines

end Sys2Proof.Machine

namespace Sys2Proof.Machine

/-! ### Changes of the directory's own operations -/

theorem ofFn_getElem {α : Type} {n : Nat} (f : Fin n → α) (i : Fin n) : (Vector.ofFn f)[i] = f i := by
  simp

/-- A set of ports holds one exactly when it is not empty. -/
theorem PortSet.any_iff {S : PortSet} : S.any = true ↔ ∃ k : Port, S[k] = true := by
  simp only [PortSet.any, Bool.or_eq_true]
  constructor
  · rintro (((h | h) | h) | h)
    exacts [⟨0, h⟩, ⟨1, h⟩, ⟨2, h⟩, ⟨3, h⟩]
  · rintro ⟨k, hk⟩
    match k with
    | 0 => exact .inl (.inl (.inl hk))
    | 1 => exact .inl (.inl (.inr hk))
    | 2 => exact .inl (.inr hk)
    | 3 => exact .inr hk

/-- A set of ports lacks no room exactly when every port of it has room (R98). -/
theorem lacking_any {s : State} {S : PortSet} {l : LineAddr} : (s.lacking S l).any = true ↔ ¬s.roomFor S l := by
  simp [-Fin.getElem_fin, PortSet.any_iff, State.lacking, ofFn_getElem, State.roomFor]

theorem lacking_none {s : State} {S : PortSet} {l : LineAddr} (h : ¬(s.lacking S l).any = true) : s.roomFor S l := by
  rwa [lacking_any, not_not] at h

theorem PortSet.erase_getElem {S : PortSet} {j k : Port} (h : (S.erase k)[j] = true) : S[j] = true := by
  rw [PortSet.erase, setAt_getElem] at h
  split at h
  · cases h
  · exact h

theorem PortSet.only_getElem {S : PortSet} {j k : Port} (h : (S.only k)[j] = true) : S[j] = true := by
  rw [PortSet.only, setAt_getElem] at h
  split at h
  · next hk => exact hk ▸ h
  · rw [PortSet.empty_getElem] at h
    cases h

/-- A list that holds a way once holds it once at the front (R39). -/
theorem moveFront_perm {l : List WayIdx} (w : WayIdx) (h : l.Perm allWays) : (moveFront w l).Perm allWays := by
  have hnodup : l.Nodup := h.nodup_iff.mpr (by decide)
  have hmem : w ∈ l := h.mem_iff.mpr (by revert w; decide)
  have herase : (l.filter fun x => x != w) = l.erase w := (hnodup.erase_eq_filter w).symm
  rw [moveFront, herase]
  exact (List.perm_cons_erase hmem).symm.trans h

/-- A list that holds a way once holds it once at the back (R39). -/
theorem moveBack_perm {l : List WayIdx} (w : WayIdx) (h : l.Perm allWays) : (moveBack w l).Perm allWays :=
  (List.perm_append_singleton w _).trans (moveFront_perm w h)

theorem respond_sameLines (s : State) (k : Port) (r : Response) : s.SameLines (s.respond k r) :=
  (setPort_sameLines s (p := s.ports[k].answered r) rfl).trans rfl

theorem place_sameLines (s : State) (k : Port) (p : Placement) : s.SameLines (s.place k p) := setPort_sameLines s rfl

theorem makePortOp_sameLines (s : State) (q : Request) (wt : Bool) : s.SameLines (s.makePortOp q wt) :=
  (place_sameLines s q.port .portOp).trans rfl

theorem setEntry_setEntry (s : State) (si : SetIdx) (w : WayIdx) (d e : Entry) :
    (s.setEntry si w d).setEntry si w e = s.setEntry si w e := by
  simp [-Fin.getElem_fin, State.setEntry]

theorem setSlot_self (s : State) (i : SlotId) : s.setSlot i s.slots[i] = s := by
  simp [-Fin.getElem_fin, State.setSlot]

theorem Entry.withHeld_held {e : Entry} {x : Held} (h : e.held? = some x) (y : Held) :
    (e.withHeld y).held? = some y := by
  cases e <;> simp_all [Entry.held?, Entry.withHeld]

section Chain

variable {s u : State}

theorem State.Evolves.respond (h : s.Evolves u) (k : Port) (r : Response) : s.Evolves (u.respond k r) :=
  h.beside (respond_sameLines u k r)

theorem State.Evolves.touch (h : s.Evolves u) (si : SetIdx) (w : WayIdx) : s.Evolves (u.touch si w) :=
  h.reordered si _ (moveFront_perm w)

theorem State.Evolves.sink (h : s.Evolves u) (si : SetIdx) (w : WayIdx) : s.Evolves (u.sink si w) :=
  h.reordered si _ (moveBack_perm w)

/-- A line that is not reserved leaves its way, which goes to the back (R39, R174). -/
theorem State.Evolves.invalidate (h : s.Evolves u) {si : SetIdx} {w : WayIdx} {x : Held}
    (held : (u.entry si w).held? = some x) (unreserved : u.resOf (lineAt x.tag si) = none) :
    s.Evolves (u.invalidate si w) := by
  have hsettled : ∀ tag r i, u.entry si w ≠ .filling tag r i := fun tag r i hf => by simp [hf, Entry.held?] at held
  refine ((h.cleared si w hsettled fun y hy => ?_).sink si w).beside rfl
  obtain rfl := Option.some.inj (held.symm.trans hy)
  exact unreserved

/-- The line's reservation is freed (R78). -/
theorem freeLine_thins (s : State) (l : LineAddr) : reservationsOf s.res (s.freeLine l).res := by
  intro e x hx
  simp only [State.freeLine_res, mapAll_getElem] at hx
  split at hx
  · cases hx
  · exact ⟨x, hx, rfl, rfl⟩

theorem freeLine_resOf (s : State) (l : LineAddr) : (s.freeLine l).resOf l = none := by
  refine resOf_eq_none.mpr fun e => ?_
  rw [State.freeLine_res, mapAll_getElem]
  split
  · rfl
  · next hr => simpa using hr

theorem State.Evolves.freeLine (h : s.Evolves u) (l : LineAddr) : s.Evolves (u.freeLine l) :=
  h.thinned _ (freeLine_thins u l)

end Chain

/-! ### Hit service (R30)

A completed fill serves its transactions before its slot is FREE. So the lemmas take the state with slot `i` at `g`
already; with `g` what the slot is at, that is the state itself. -/

section Serve

variable {s u : State} {i : SlotId} {g : Option Fill} {q : Request} {w : WayIdx} {x : Held}

/-- A READ hit moves its way to the front (R31). -/
theorem State.Evolves.serveRead (h : s.Evolves (u.setSlot i g)) (q : Request) (w : WayIdx) (x : Held) :
    s.Evolves ((u.serveRead q w x).setSlot i g) :=
  (h.touch _ _).respond _ _

/-- A port that keeps a line is COHERENT and ATTACHED (R4, R32). -/
theorem mode_of_keepHonoured (hk : s.keepHonoured q = true) : s.ports[q.port].mode = .coherent true := by
  simp only [State.keepHonoured, Bool.and_eq_true] at hk
  obtain ⟨-, hattached⟩ := hk
  cases hm : s.ports[q.port].mode <;> simp_all [-Fin.getElem_fin, Mode.attached]

/-- A LINE_READ hit with KEEP makes its port a sharer (R32, R49). -/
theorem State.Evolves.serveLineRead (h : s.Evolves (u.setSlot i g))
    (held : (u.entry (setOf q.txn.line) w).held? = some x) : s.Evolves ((u.serveLineRead q w x).setSlot i g) := by
  have hshare : ∀ k : Port, (x.share q.port (u.keepHonoured q)).sharers[k] = true →
      x.sharers[k] = true ∨ u.ports[k].mode = .coherent true := by
    intro k hk
    unfold Held.share at hk
    split at hk
    · next hkeep =>
      rw [PortSet.insert, setAt_getElem] at hk
      split at hk
      · next hq => exact .inr (hq ▸ mode_of_keepHonoured hkeep)
      · exact .inl hk
    · exact .inl hk
  have htag : (x.share q.port (u.keepHonoured q)).tag = x.tag := by
    unfold Held.share
    split <;> rfl
  exact ((h.rewritten _ w _ x _ held (Entry.withHeld_held held _) htag hshare).touch _ _).respond _ _

/-- A write that no check refuses has notice room at every other sharer (R34). -/
theorem room_of_writeRefusal (h : s.writeRefusal q x = none) : s.roomFor (x.sharers.erase q.port) q.txn.line := by
  unfold State.writeRefusal at h
  split at h
  · cases h
  · split at h
    · cases h
    · next hroom => exact lacking_none hroom

/-- A performed write notifies the other sharers and rewrites its line (R33 to R35). -/
theorem State.Evolves.writeLine (h : s.Evolves (u.setSlot i g))
    (held : (u.entry (setOf q.txn.line) w).held? = some x) (hr : u.writeRefusal q x = none) :
    s.Evolves ((u.writeLine q w x).setSlot i g) := by
  obtain ⟨y, hy, htag, hsharers⟩ : ∃ y, (u.writtenEntry q x).held? = some y ∧ y.tag = x.tag ∧
      y.sharers = x.sharers.only q.port := by
    unfold State.writtenEntry
    split
    · exact ⟨_, rfl, rfl, rfl⟩
    · exact ⟨_, rfl, rfl, rfl⟩
  have hsharing : ∃ si w, ∀ k : Port, (x.sharers.erase q.port)[k] = true → (u.entry si w).sharers[k] = true :=
    ⟨_, w, fun k hk => sharers_of_held held ▸ PortSet.erase_getElem hk⟩
  have hnotified := h.noticed .invalidate q.txn.line (x.sharers.erase q.port) (room_of_writeRefusal hr) hsharing
  exact (hnotified.rewritten _ w _ x y held hy htag fun k hk => .inl (PortSet.only_getElem (hsharers ▸ hk))).touch _ _

/-- A performed write is answered or becomes a port operation (R33, R35). -/
theorem State.Evolves.finishWrite (h : s.Evolves (u.setSlot i g)) (q : Request) :
    s.Evolves ((u.finishWrite q).setSlot i g) := by
  unfold State.finishWrite
  split
  · exact h.beside (makePortOp_sameLines _ q true)
  · exact h.respond _ _

theorem State.Evolves.serveWrite (h : s.Evolves (u.setSlot i g))
    (held : (u.entry (setOf q.txn.line) w).held? = some x) : s.Evolves ((u.serveWrite q w x).setSlot i g) := by
  unfold State.serveWrite
  split
  · exact h.respond _ _
  · split
    · exact h.respond _ _
    · next hr => exact State.Evolves.finishWrite (h.writeLine held hr) q

/-- A port's own reservation of a line is refreshed with its owner and line kept (R82). -/
theorem refresh_thins {j : ResId} (hown : s.reservedByOther q.txn.line q.port = false)
    (hj : s.resOf q.txn.line = some j) :
    reservationsOf s.res (s.setRes j (s.reservation q.port q.txn.line q.txn.word)).res := by
  intro e y hy
  rw [State.setRes_res, setAt_getElem] at hy
  split at hy
  · next he =>
    subst he
    obtain rfl := Option.some.inj hy
    obtain ⟨z, hz, hline⟩ := reserves_iff.mp (resOf_reserves hj)
    refine ⟨z, hz, hline, ?_⟩
    have howner : z.owner = q.port := by
      simpa [-Fin.getElem_fin, State.reservedByOther, State.reserver, hj, hz] using hown
    exact howner
  · exact ⟨y, hy, rfl, rfl⟩

/-- A RESERVE_READ hit refreshes its port's reservation, or is granted one within the limits (R79, R81, R82). -/
theorem State.Evolves.serveReserve (h : s.Evolves (u.setSlot i g))
    (line : s.linesSound → ∃ w y, (u.entry (setOf q.txn.line) w).held? = some y ∧ y.tag = tagOf q.txn.line) :
    s.Evolves ((u.serveReserve q w x).setSlot i g) := by
  unfold State.serveReserve
  split
  · exact h.respond _ _
  · next hown =>
    split
    · next j hj =>
      have hrefreshed := h.thinned _ (refresh_thins (s := u) (by simpa using hown) hj)
      exact (hrefreshed.touch _ _).respond _ _
    · next hnone =>
      split
      · exact h.respond _ _
      · next hfew =>
        split
        · exact h.respond _ _
        · next j hj =>
          have hgranted := h.granted j (u.reservation q.port q.txn.line q.txn.word) (freeRes_free hj) hnone
            (Nat.lt_of_not_le hfew) line
          exact (hgranted.touch _ _).respond _ _

theorem State.Evolves.serveReleaseWrite (h : s.Evolves (u.setSlot i g))
    (held : (u.entry (setOf q.txn.line) w).held? = some x) :
    s.Evolves ((u.serveReleaseWrite q w x).setSlot i g) := by
  unfold State.serveReleaseWrite
  split
  · split
    · exact h.respond _ _
    · next hr =>
      have hfreed := (h.writeLine held hr).freeLine q.txn.line
      exact State.Evolves.finishWrite (u := (u.writeLine q w x).freeLine q.txn.line) hfreed q
  · exact h.respond _ _

theorem State.Evolves.serveRelease (h : s.Evolves (u.setSlot i g)) (q : Request) (w : WayIdx) :
    s.Evolves ((u.serveRelease q w).setSlot i g) := by
  unfold State.serveRelease
  split
  · exact ((h.freeLine q.txn.line).touch _ _).respond _ _
  · exact h.respond _ _

/-- Hit service changes the line it serves, and reserves it only where some way holds it (R30). -/
theorem State.Evolves.serve (h : s.Evolves (u.setSlot i g)) (w : WayIdx)
    (line : s.linesSound → ∃ w y, (u.entry (setOf q.txn.line) w).held? = some y ∧ y.tag = tagOf q.txn.line) :
    s.Evolves ((u.serve q w).setSlot i g) := by
  unfold State.serve
  split
  · exact h
  · next x held =>
    unfold State.serveHeld
    split
    · exact h.serveRead q w x
    · exact h.serveWrite held
    · exact h.serveLineRead held
    · exact h.serveWrite held
    · exact h.serveReserve line
    · exact h.serveReleaseWrite held
    · exact h.serveRelease q w

end Serve

end Sys2Proof.Machine

namespace Sys2Proof.Machine

/-! ### Shapes that hit service leaves (R30) -/

section Shapes

variable {s : State} {q : Request} {w : WayIdx} {x : Held}

theorem Entry.tag?_of_held {e : Entry} (h : e.held? = some x) : e.tag? = some x.tag := by
  cases e <;> simp_all [Entry.held?, Entry.tag?]

theorem touch_shape (s : State) (si : SetIdx) (w : WayIdx) : (s.touch si w).shape = s.shape := by
  funext sj v
  exact congrArg Entry.shape (reordered_entry s si sj v (moveFront w s.dir[si].recency))

theorem setEntry_shape_same {si : SetIdx} {e : Entry} (he : e.shape = (s.entry si w).shape) :
    (s.setEntry si w e).shape = s.shape := by
  funext sj v
  rw [setEntry_shape]
  split
  · next hi =>
    obtain ⟨rfl, rfl⟩ := hi
    exact he
  · rfl

/-- A held line that is replaced keeps its way's shape if it keeps its tag. -/
theorem shape_of_held {d e : Entry} {y : Held} (hd : d.held? = some x) (he : e.held? = some y) (htag : y.tag = x.tag) :
    e.shape = d.shape :=
  (Entry.shape_held.mpr ⟨y, he, htag⟩).trans (Entry.shape_held.mpr ⟨x, hd, rfl⟩).symm

theorem writeLine_shape (held : (s.entry (setOf q.txn.line) w).held? = some x) :
    (s.writeLine q w x).shape = s.shape := by
  refine (touch_shape _ _ _).trans (setEntry_shape_same (s := s.sendNotices _ _ _) ?_)
  unfold State.writtenEntry
  split <;> exact shape_of_held held rfl rfl

theorem freeLine_shape (s : State) (l : LineAddr) : (s.freeLine l).shape = s.shape := rfl

theorem finishWrite_shape (s : State) (q : Request) : (s.finishWrite q).shape = s.shape := by
  unfold State.finishWrite
  split <;> rfl

theorem serveWrite_shape (held : (s.entry (setOf q.txn.line) w).held? = some x) :
    (s.serveWrite q w x).shape = s.shape := by
  unfold State.serveWrite
  split
  · rfl
  · split
    · rfl
    · exact (finishWrite_shape _ q).trans (writeLine_shape held)

theorem serveReserve_shape (s : State) (q : Request) (w : WayIdx) (x : Held) :
    (s.serveReserve q w x).shape = s.shape := by
  have hgrant (j : ResId) : (s.grantRead q w x j).shape = s.shape := touch_shape (s.setRes j _) _ w
  unfold State.serveReserve
  split
  · rfl
  · split
    · exact hgrant _
    · split
      · rfl
      · split
        · rfl
        · exact hgrant _

theorem serveReleaseWrite_shape (held : (s.entry (setOf q.txn.line) w).held? = some x) :
    (s.serveReleaseWrite q w x).shape = s.shape := by
  unfold State.serveReleaseWrite
  split
  · split
    · rfl
    · exact (finishWrite_shape _ q).trans ((freeLine_shape _ _).trans (writeLine_shape held))
  · rfl

theorem serveLineRead_shape (held : (s.entry (setOf q.txn.line) w).held? = some x) :
    (s.serveLineRead q w x).shape = s.shape := by
  have htag : (x.share q.port (s.keepHonoured q)).tag = x.tag := by
    unfold Held.share
    split <;> rfl
  exact (touch_shape _ _ w).trans (setEntry_shape_same (shape_of_held held (Entry.withHeld_held held _) htag))

theorem serveRelease_shape (s : State) (q : Request) (w : WayIdx) : (s.serveRelease q w).shape = s.shape := by
  unfold State.serveRelease
  split
  · exact touch_shape (s.freeLine q.txn.line) _ w
  · rfl

/-- Hit service leaves each way CLEAN or DIRTY with its line, INVALID or FILLING as it was (R30). -/
theorem serve_shape (s : State) (q : Request) (w : WayIdx) : (s.serve q w).shape = s.shape := by
  unfold State.serve
  split
  · rfl
  · next x held =>
    unfold State.serveHeld
    split
    · exact touch_shape s _ w
    · exact serveWrite_shape held
    · exact serveLineRead_shape held
    · exact serveWrite_shape held
    · exact serveReserve_shape s q w x
    · exact serveReleaseWrite_shape held
    · exact serveRelease_shape s q w

/-- A settled transaction leaves the slots. -/
theorem State.Settles.slots {t : State} {k : Port} (h : s.Settles k t) : t.slots = s.slots := by
  cases h with
  | left same | answered same _ | portOp same _ _ _ => exact same.slots

end Shapes

/-! ### Fills (R48, R53 to R65) -/

section Fills

variable {s u : State}

/-- Some way holds the line CLEAN or DIRTY. -/
def State.holds (s : State) (l : LineAddr) : Prop := ∃ w, s.shape (setOf l) w = some (tagOf l, none)

theorem State.holds.exists_held {l : LineAddr} (h : s.holds l) :
    ∃ w y, (s.entry (setOf l) w).held? = some y ∧ y.tag = tagOf l := by
  obtain ⟨w, hw⟩ := h
  exact ⟨w, Entry.shape_held.mp hw⟩

/-- The transactions of a completed fill are served one after the other (R59). -/
theorem State.Evolves.serveAll {i : SlotId} {g : Option Fill} (w : WayIdx) {qs : List Request}
    (h : s.Evolves (u.setSlot i g)) (lines : s.linesSound → ∀ q ∈ qs, u.holds q.txn.line) :
    s.Evolves ((u.serveAll w qs).setSlot i g) := by
  induction qs generalizing u with
  | nil => exact h
  | cons q qs ih =>
    refine ih (h.serve w fun hs => (lines hs q List.mem_cons_self).exists_held) fun hs x hx => ?_
    rw [State.holds, serve_shape]
    exact lines hs x (List.mem_cons_of_mem q hx)

theorem answerAll_sameLines (s : State) (qs : List Request) (answer : Request → Response) :
    s.SameLines (s.answerAll qs answer) :=
  List.foldlRecOn qs _ (.refl s) fun _ hu q _ => hu.trans (respond_sameLines _ q.port (answer q))

/-- A fill ends without its line (R64, R65). -/
theorem State.Evolves.dropFill (h : s.Evolves u) {i : SlotId} {f : Fill} (slot : u.slots[i] = some f) :
    s.Evolves ((u.invalidate (setOf f.line) f.way).setSlot i none) :=
  ((h.fillEnded i f .invalid slot (.inl rfl)).sink (setOf f.line) f.way).beside rfl

/-- Fill failure (R65). -/
theorem State.Evolves.failFill (h : s.Evolves u) (i : SlotId) (c : FaultCause) : s.Evolves (u.failFill i c) := by
  unfold State.failFill
  split
  · exact h
  · next f hf =>
    have hsame := answerAll_sameLines u f.served fun _ => .fault c
    exact (h.beside hsame).dropFill (by rw [hsame.slots, hf])

/-- Fill completion without taint: the line is installed, and then the transactions are served (R59). -/
theorem State.Evolves.installFill (h : s.Evolves u) {i : SlotId} {f : Fill} (slot : u.slots[i] = some f) :
    s.Evolves (u.installFill i f) := by
  refine State.Evolves.serveAll f.way (h.fillEnded i f _ slot (.inr rfl)) fun hs q hq => ?_
  have hline := (h.linesAgree (linesSound_iff.mp hs)).served i f slot q hq
  refine ⟨f.way, ?_⟩
  rw [hline, State.shape, setEntry_entry_self]
  rfl

/-- Fill completion (R58, R59, R64). -/
theorem State.Evolves.completeFill (h : s.Evolves u) (i : SlotId) : s.Evolves (u.completeFill i) := by
  unfold State.completeFill
  split
  · exact h
  · next f hf =>
    split
    · have hsame := answerAll_sameLines u f.served fun q => q.taintedAnswer (arrange f.critical f.received)
      exact (h.beside hsame).dropFill (by rw [hsame.slots, hf])
    · exact h.installFill hf

/-- A fill changes but for its line, its way and its region, and gains no transaction. -/
theorem State.Evolves.mapSlot (h : s.Evolves u) (i : SlotId) (g : Fill → Fill)
    (line : ∀ f, (g f).line = f.line) (way : ∀ f, (g f).way = f.way) (region : ∀ f, (g f).region = f.region)
    (served : ∀ f, ∀ q ∈ (g f).served, q ∈ f.served) : s.Evolves (u.setSlot i (u.slots[i].map g)) := by
  cases hf : u.slots[i] with
  | none =>
    rw [Option.map_none, ← hf, setSlot_self]
    exact h
  | some f => exact h.fillChanged i f (g f) hf (line f) (way f) (region f) fun q hq => .inl (served f q hq)

/-- A slot's requester is vacant, or was there before (R56). -/
theorem abandonRequester_served (f : Fill) : ∀ q ∈ f.abandonRequester.served, q ∈ f.served := by
  intro q hq
  exact List.mem_append_right _ hq

theorem abandonWaiter_served (k : Port) (f : Fill) : ∀ q ∈ (f.abandonWaiter k).served, q ∈ f.served := by
  intro q hq
  obtain hq | hq := List.mem_append.mp hq
  · exact List.mem_append_left _ hq
  · exact List.mem_append_right _ (List.mem_of_mem_filter hq)

/-- The transactions of a fill that one joins (R55). -/
theorem join_served (f : Fill) (q : Request) : ∀ x ∈ (f.join q).served, x ∈ f.served ∨ x = q := by
  intro x hx
  unfold Fill.join at hx
  split at hx
  · obtain hx | hx := List.mem_append.mp hx
    · exact .inr (by simpa using hx)
    · exact .inl (List.mem_append_right _ hx)
  · rw [Fill.served, ← List.append_assoc] at hx
    obtain hx | hx := List.mem_append.mp hx
    · exact .inl hx
    · exact .inr (List.mem_singleton.mp hx)

/-- A transaction joins the fill of its own line (R28, R55). -/
theorem State.Evolves.joinFill (h : s.Evolves u) {q : Request} {w : WayIdx} {r : RegionId} {i : SlotId}
    (filling : u.entry (setOf q.txn.line) w = .filling (tagOf q.txn.line) r i) : s.Evolves (u.joinFill q i) := by
  unfold State.joinFill
  split
  · exact h
  · next f hf =>
    obtain ⟨hline, hway, hregion⟩ : (f.join q).line = f.line ∧ (f.join q).way = f.way ∧
        (f.join q).region = f.region := by
      unfold Fill.join
      split <;> exact ⟨rfl, rfl, rfl⟩
    refine State.Evolves.beside (h.fillChanged i f (f.join q) hf hline hway hregion fun x hx => ?_)
      (place_sameLines _ q.port _)
    obtain hx | rfl := join_served f q x hx
    · exact .inl hx
    · exact .inr ⟨w, r, filling⟩

end Fills

/-! ### Allocation (R44 to R48) -/

section Allocation

variable {s u : State} {q : Request} {w : WayIdx}

/-- A victim is INVALID, or may be taken (R44). -/
theorem victim_cases {si : SetIdx} (h : s.victim si = some w) :
    s.entry si w = .invalid ∨ s.mayBeVictim si w = true := by
  unfold State.victim at h
  split at h
  · next v hv =>
    obtain rfl := Option.some.inj h
    exact .inl (by simpa using List.find?_some hv)
  · exact .inr (List.find?_some h)

/-- A victim's line is not reserved, and a victim is not FILLING (R44). -/
theorem victim_settled {si : SetIdx} (h : s.victim si = some w) :
    (∀ tag r i, s.entry si w ≠ .filling tag r i) ∧
      ∀ x, (s.entry si w).held? = some x → s.resOf (lineAt x.tag si) = none := by
  obtain hv | hv := victim_cases h
  · rw [hv]
    exact ⟨nofun, nofun⟩
  · unfold State.mayBeVictim at hv
    split at hv
    · cases hv
    · cases hv
    · next x hx =>
      rw [hx]
      refine ⟨nofun, fun y hy => ?_⟩
      obtain rfl := Option.some.inj hy
      simpa using hv
    · next x hx =>
      rw [hx]
      refine ⟨nofun, fun y hy => ?_⟩
      obtain rfl := Option.some.inj hy
      simp only [Bool.and_eq_true, Option.isNone_iff_eq_none] at hv
      exact hv.1

/-- A victim that passes the checks has notice room at every sharer (R45). -/
theorem room_of_victimRefusal {si : SetIdx} {x : Held} (held : (s.entry si w).held? = some x)
    (h : s.victimRefusal si w = none) : s.roomFor x.sharers (lineAt x.tag si) := by
  simp only [State.victimRefusal, held] at h
  split at h
  · cases h
  · split at h
    · cases h
    · next hroom => exact lacking_none hroom

/-- The victim's line goes to the drain buffer and its sharers are told; the directory is not changed yet (R46). -/
theorem evict_blocks (s : State) (si : SetIdx) (w : WayIdx) :
    (s.evict si w).dir = s.dir ∧ (s.evict si w).res = s.res ∧ (s.evict si w).slots = s.slots := by
  unfold State.evict
  split <;> exact ⟨rfl, rfl, rfl⟩

theorem State.Evolves.evict (h : s.Evolves u) {si : SetIdx} (hr : u.victimRefusal si w = none) :
    s.Evolves (u.evict si w) := by
  unfold State.evict
  split
  · exact h
  · exact h
  · next x hx =>
    have hheld : (u.entry si w).held? = some x := by rw [hx]; rfl
    exact h.noticed _ _ _ (room_of_victimRefusal hheld hr) ⟨si, w, fun k hk => sharers_of_held hheld ▸ hk⟩
  · next x hx =>
    have hheld : (u.entry si w).held? = some x := by rw [hx]; rfl
    have hdrained : s.Evolves (u.addDrain .evict (lineAt x.tag si) x) := h.beside rfl
    exact hdrained.noticed _ _ _ (room_of_victimRefusal (s := u) hheld hr)
      ⟨si, w, fun k hk => sharers_of_held hheld ▸ hk⟩

theorem lookup_eq_none {l : LineAddr} : s.lookup l = none ↔ ∀ w, (s.entry (setOf l) w).tag? ≠ some (tagOf l) := by
  have hmem : ∀ w : WayIdx, w ∈ allWays := by decide
  simp [State.lookup, List.find?_eq_none, hmem]

/-- The victim's line is off its way, and no way holds the line that is to come (R46). -/
theorem State.Evolves.vacate (h : s.Evolves u) {l : LineAddr} (hv : u.victim (setOf l) = some w)
    (hr : u.victimRefusal (setOf l) w = none) (hm : u.lookup l = none) :
    s.Evolves ((u.evict (setOf l) w).setEntry (setOf l) w .invalid) ∧
      ∀ v, (((u.evict (setOf l) w).setEntry (setOf l) w .invalid).entry (setOf l) v).tag? ≠ some (tagOf l) := by
  obtain ⟨hdir, hres, -⟩ := evict_blocks u (setOf l) w
  have hentry (v : WayIdx) : (u.evict (setOf l) w).entry (setOf l) v = u.entry (setOf l) v := by
    rw [State.entry, hdir]
    rfl
  have hresOf (l' : LineAddr) : (u.evict (setOf l) w).resOf l' = u.resOf l' := by
    rw [State.resOf, hres]
    rfl
  obtain ⟨hsettled, hfree⟩ := victim_settled hv
  refine ⟨(h.evict hr).cleared _ w ?_ ?_, fun v => ?_⟩
  · rw [hentry]
    exact hsettled
  · simp only [hentry, hresOf]
    exact hfree
  · rw [setEntry_entry]
    split
    · nofun
    · rw [hentry]
      exact lookup_eq_none.mp hm v

/-- A LINE_WRITE takes the victim's way (R47). -/
theorem State.Evolves.installWrite (h : s.Evolves u) (hv : u.victim (setOf q.txn.line) = some w)
    (hr : u.victimRefusal (setOf q.txn.line) w = none) (hm : u.lookup q.txn.line = none) :
    s.Evolves (u.installWrite q w) := by
  obtain ⟨hvacant, hfresh⟩ := h.vacate hv hr hm
  have hinstalled := hvacant.installed _ w
    { tag := tagOf q.txn.line, region := q.region, sharers := PortSet.empty, data := q.txn.ldata }
    (setEntry_entry_self _ _ _ _) hfresh rfl
  rw [setEntry_setEntry] at hinstalled
  have hallocated : s.Evolves (u.allocate (setOf q.txn.line) w (.dirty
      { tag := tagOf q.txn.line, region := q.region, sharers := PortSet.empty, data := q.txn.ldata })) :=
    (hinstalled.touch (setOf q.txn.line) w).beside rfl
  exact hallocated.respond q.port _

/-- A fill takes the victim's way (R48). -/
theorem State.Evolves.startFill (h : s.Evolves u) {i : SlotId} (hv : u.victim (setOf q.txn.line) = some w)
    (hr : u.victimRefusal (setOf q.txn.line) w = none) (hm : u.lookup q.txn.line = none) (hi : u.slots[i] = none) :
    s.Evolves (u.startFill q w i) := by
  obtain ⟨-, -, hslots⟩ := evict_blocks u (setOf q.txn.line) w
  obtain ⟨hvacant, hfresh⟩ := h.vacate hv hr hm
  have hstarted := hvacant.fillStarted q w i (setEntry_entry_self _ _ _ _)
    (by rw [State.setEntry_slots, hslots, hi]) hfresh
  rw [setEntry_setEntry] at hstarted
  have hallocated : s.Evolves ((u.allocate (setOf q.txn.line) w
      (.filling (tagOf q.txn.line) q.region i)).setSlot i (some (q.fill w))) :=
    (hstarted.touch (setOf q.txn.line) w).beside rfl
  have hqueued : s.Evolves (((u.allocate (setOf q.txn.line) w
      (.filling (tagOf q.txn.line) q.region i)).setSlot i (some (q.fill w))).enqueue
        (fillOp i q.region q.txn.line q.txn.word)) := hallocated.beside rfl
  exact hqueued.beside (place_sameLines _ q.port (.requester i))

/-- A chosen victim is refused, or allocated as chosen with its checks passed (R44, R45). -/
theorem State.Evolves.chooseVictim (h : s.Evolves u) {alloc : WayIdx → State}
    (ha : ∀ w, u.victim (setOf q.txn.line) = some w → u.victimRefusal (setOf q.txn.line) w = none →
      s.Evolves (alloc w)) : s.Evolves (u.chooseVictim q alloc) := by
  unfold State.chooseVictim
  split
  · exact h.respond _ _
  · next w hv =>
    split
    · exact h.respond _ _
    · next hr => exact ha w hv hr

theorem State.Evolves.missAllocate (h : s.Evolves u) (hm : u.lookup q.txn.line = none) :
    s.Evolves (u.missAllocate q) := by
  unfold State.missAllocate
  split
  · exact h.chooseVictim fun w hv hr => h.installWrite hv hr hm
  · split
    · exact h.respond _ _
    · next i hi => exact h.chooseVictim fun w hv hr => h.startFill hv hr hm (freeSlot_free hi)

theorem State.Evolves.missPath (h : s.Evolves u) (hm : u.lookup q.txn.line = none) : s.Evolves (u.missPath q) := by
  unfold State.missPath
  split
  · exact h.respond _ _
  · split
    · exact h.respond _ _
    · split
      · exact h.beside (makePortOp_sameLines u q false)
      · split
        · exact h.respond _ _
        · exact h.missAllocate hm

theorem State.Evolves.miss (h : s.Evolves u) (hm : u.lookup q.txn.line = none) : s.Evolves (u.miss q) := by
  unfold State.miss
  split
  · exact h.respond _ _
  · exact h.respond _ _
  all_goals exact h.missPath hm

/-- A line that some way holds is served (R30). -/
theorem State.Evolves.serveHit (h : s.Evolves u)
    (held : ∃ v y, (u.entry (setOf q.txn.line) v).held? = some y ∧ y.tag = tagOf q.txn.line) :
    s.Evolves (u.serve q w) := by
  have hself : s.Evolves (u.setSlot 0 (u.serve q w).slots[(0 : SlotId)]) := by
    rw [(serve_settles u q w).slots, setSlot_self]
    exact h
  have hserved := hself.serve w fun _ => held
  rwa [setSlot_self] at hserved

/-- What follows the lookup, by the state of the way it finds (R27). -/
theorem State.Evolves.directory (h : s.Evolves u) (q : Request) : s.Evolves (u.directory q) := by
  unfold State.directory
  split
  · next hm => exact h.miss hm
  · next w hw =>
    have htag := lookup_tag hw
    have hserve {x : Held} (hx : (u.entry (setOf q.txn.line) w).held? = some x) : s.Evolves (u.serve q w) :=
      h.serveHit ⟨w, x, hx, by simpa [Entry.tag?_of_held hx] using htag⟩
    split
    · next tag r i hf =>
      rw [hf] at htag
      obtain rfl := Option.some.inj htag
      exact h.joinFill hf
    · exact h
    · next x hx => exact hserve (by rw [hx]; rfl)
    · next x hx => exact hserve (by rw [hx]; rfl)

end Allocation

end Sys2Proof.Machine

namespace Sys2Proof.Machine

/-! ### Ends of operations and regions that depart or return (R143 to R165) -/

section Device

variable {s u : State}

theorem State.Evolves.record (h : s.Evolves u) (e : Event) : s.Evolves (u.record e) := h.beside rfl

theorem answerOwner_sameLines (s : State) (op : Operation) (r : Response) : s.SameLines (s.answerOwner op r) := by
  unfold State.answerOwner
  split
  · exact .refl s
  · exact respond_sameLines s _ r

theorem recordLost_sameLines (s : State) (op : Operation) (how : LostHow) : s.SameLines (s.recordLost op how) := by
  rw [recordLost_eq]
  exact rfl

theorem failPortOp_sameLines (s : State) (op : Operation) (c : FaultCause) (how : LostHow) :
    s.SameLines (s.failPortOp op c how) :=
  (answerOwner_sameLines s op _).trans (recordLost_sameLines _ op how)

theorem requeueDrains_sameLines (s : State) (r : RegionId) : s.SameLines (s.requeueDrains r) :=
  List.foldlRecOn (s.heldDrains r) _ rfl fun _ hu _ _ => hu.trans rfl

theorem comeOnline_sameLines (s : State) (r : RegionId) (e : Event) : s.SameLines (s.comeOnline r e) := by
  have hmarked : s.SameLines (s.markOnline r) := rfl
  exact (hmarked.trans (requeueDrains_sameLines _ r)).trans rfl

/-- A removed operation is handed on (R144). -/
theorem State.Evolves.handOn (h : s.Evolves u) (op : Operation) : s.Evolves (u.handOn op) := by
  unfold State.handOn
  split
  · exact h.failFill _ _
  · exact h.beside rfl
  · exact (h.beside (failPortOp_sameLines u op _ _)).beside rfl
  · exact (h.beside (failPortOp_sameLines u op _ _)).beside rfl
  · exact h

theorem State.Evolves.handOnAll (h : s.Evolves u) (queued parked : List Operation) :
    s.Evolves (u.handOnAll queued parked) :=
  List.foldlRecOn parked _ (List.foldlRecOn queued _ h fun _ hu op _ => hu.handOn op) fun _ hu op _ =>
    hu.beside (failPortOp_sameLines _ op _ _)

theorem departed_sameLines (s : State) (r : RegionId) (e : Event) :
    s.SameLines (((s.record e).startProbeTimer r).kick) := rfl

/-- Region `r` departs (R153, R163). -/
theorem State.Evolves.goOffline (h : s.Evolves u) (r : RegionId) {first : State → State} (e : Event)
    (hf : ∀ v : State, s.Evolves v → s.Evolves (first v)) : s.Evolves (u.goOffline r first e) := by
  have hstripped : s.Evolves (u.stripRegion r) := h.beside rfl
  have hfirst : s.Evolves ((first (u.stripRegion r)).markOffline r) := (hf _ hstripped).beside rfl
  exact (hfirst.handOnAll _ _).beside (departed_sameLines _ r e)

/-- A completed word joins its fill (R54, R140). -/
theorem State.Evolves.receive (h : s.Evolves u) (op : Operation) (w : Word) : s.Evolves (u.receive op w) := by
  unfold State.receive
  split
  · exact h.mapSlot _ _ (fun _ => rfl) (fun _ => rfl) (fun _ => rfl) fun _ _ hq => hq
  all_goals exact h

theorem State.Evolves.handSuccess (h : s.Evolves u) (op : Operation) (kept : List Word) :
    s.Evolves (u.handSuccess op kept) := by
  unfold State.handSuccess
  split
  · exact h.completeFill _
  · exact h.beside rfl
  · exact (h.beside (answerOwner_sameLines u op _)).beside rfl
  · exact (h.beside (answerOwner_sameLines u op _)).beside rfl
  · exact h.beside (comeOnline_sameLines u _ _)

theorem State.Evolves.ackWord (h : s.Evolves u) (op : Operation) (rest : List Transfer) (w : Word) (kept : List Word) :
    s.Evolves (u.ackWord op rest w kept) := by
  unfold State.ackWord
  split
  · have hpopped : s.Evolves (u.receive op w).popHead := (h.receive op w).beside rfl
    exact (hpopped.handSuccess op _).beside rfl
  · exact (h.receive op w).beside rfl

theorem State.Evolves.acked (h : s.Evolves u) (data : Word) : s.Evolves (u.acked data) := by
  unfold State.acked
  split
  · exact h
  · exact h.beside rfl
  · next now _ _ _ _ _ _ _ _ =>
    have hcount : s.Evolves (u.setCount now.region 0) := h.beside rfl
    unfold State.ackHead
    split
    · exact hcount.ackWord _ _ _ _
    · split
      · exact hcount.ackWord _ _ _ _
      · exact hcount.beside rfl
  · exact h

theorem State.Evolves.loseDrain (h : s.Evolves u) (p : DrainPlace) : s.Evolves (u.loseDrain p) := by
  unfold State.loseDrain
  split
  · exact h
  · exact h.beside rfl

theorem State.Evolves.handError (h : s.Evolves u) (op : Operation) : s.Evolves (u.handError op) := by
  unfold State.handError
  split
  · exact h.failFill _ _
  · exact h.loseDrain _
  · exact (h.beside (failPortOp_sameLines u op _ _)).beside rfl
  · exact (h.beside (failPortOp_sameLines u op _ _)).beside rfl
  · exact h.beside rfl

theorem State.Evolves.errored (h : s.Evolves u) : s.Evolves u.errored := by
  unfold State.errored
  split
  · exact h
  · exact h.beside rfl
  · next now _ _ _ _ op _ _ _ =>
    have hpopped : s.Evolves (u.setCount now.region 0).popHead := h.beside rfl
    exact (hpopped.handError op).beside rfl
  · exact h

theorem State.Evolves.handTimeout (h : s.Evolves u) (op : Operation) (crossed : Bool) :
    s.Evolves (u.handTimeout op crossed) := by
  unfold State.handTimeout
  split
  · exact h.failFill _ _
  · unfold State.drainTimedOut
    split
    · exact h.beside rfl
    · split <;> exact h.beside rfl
  · exact (h.beside (failPortOp_sameLines u op _ _)).beside rfl
  · exact (h.beside (failPortOp_sameLines u op _ _)).beside rfl
  · exact h.beside rfl

theorem State.Evolves.timedOut (h : s.Evolves u) : s.Evolves u.timedOut := by
  unfold State.timedOut
  split
  · exact h
  · exact h.beside rfl
  · next now _ _ _ _ op _ _ _ =>
    have hpopped : s.Evolves (u.setCount now.region u.regions[now.region].countUp).popHead := h.beside rfl
    unfold State.timeoutHead
    split
    · exact hpopped.goOffline _ _ fun _ hv => hv.handTimeout op true
    · exact (hpopped.handTimeout op false).beside rfl
  · exact h

/-! ### Timers (R197) -/

theorem age_sound {q : NoticeQueue} (d : Nat) (h : q.sound) : (q.age d).sound := by
  simpa [NoticeQueue.sound, NoticeQueue.age] using h

/-- Time that elapses frees no reservation and no notice. -/
theorem State.Evolves.elapse (h : s.Evolves u) (d : Nat) : s.Evolves (u.elapse d) := by
  have hres : reservationsOf u.res (mapAll u.res fun r => r.map (Reservation.age d)) := by
    intro e x hx
    rw [mapAll_getElem] at hx
    obtain ⟨y, hy, rfl⟩ := Option.map_eq_some_iff.mp hx
    exact ⟨y, hy, rfl, rfl⟩
  refine State.Evolves.beside ((h.thinned _ hres).relieved (mapAll u.notices (NoticeQueue.age d)) fun k => ?_) rfl
  rw [mapAll_getElem]
  exact ⟨List.Sublist.refl _, age_sound d⟩

/-! ### Detach, resets and modes (R22, R24, R107, R111, R195) -/

/-- Port `k`'s queue is emptied (R104, R113). -/
theorem State.Evolves.emptyNotices (h : s.Evolves u) (k : Port) : s.Evolves (u.emptyNotices k) := by
  refine State.Evolves.beside (h.relieved (setAt u.notices k NoticeQueue.empty) fun j => ?_) rfl
  rw [setAt_getElem]
  split
  · exact ⟨List.nil_sublist _, fun _ => empty_sound⟩
  · exact ⟨List.Sublist.refl _, id⟩

theorem emptyNotices_entry (s : State) (k : Port) : (s.emptyNotices k).entry = s.entry := rfl

/-- A detached port has no notice and shares nothing (R107). -/
theorem State.Evolves.detach (h : s.Evolves u) (k : Port) : s.Evolves (u.detach k) := by
  refine ((h.unshared k).emptyNotices k).modeWritten k _ (.inr (.inr ⟨?_, fun si w => ?_⟩))
  · rw [State.emptyNotices_notices, setAt_getElem_self]
    rfl
  · rw [emptyNotices_entry, dropSharer_entry]
    by_contra hk
    exact (dropSharer_sharers (Bool.not_eq_false _ ▸ hk)).2 rfl

theorem detach_mode (s : State) (k : Port) : (s.detach k).ports[k].mode = s.ports[k].mode.detached := by
  rw [State.detach, setMode_mode, if_pos rfl]

theorem State.Evolves.writeMode (h : s.Evolves u) (j : Port) (coherent : Bool) :
    s.Evolves (u.writeMode j coherent) := by
  unfold State.writeMode
  split
  · exact h.modeWritten j _ (.inl rfl)
  · exact h
  · exact h
  · next hm =>
    refine (h.detach j).modeWritten j _ (.inr (.inl ?_))
    rw [detach_mode, hm]
    nofun
  · next hm => exact h.modeWritten j _ (.inr (.inl (by rw [hm]; nofun)))

/-- An abandoned transaction leaves its fill slot, its place or the queue (R56, R57, R148, R149). -/
theorem State.Evolves.abandonFlight (h : s.Evolves u) (k : Port) : s.Evolves (u.abandonFlight k) := by
  unfold State.abandonFlight
  split
  · exact h
  · exact h
  · exact h.mapSlot _ _ (fun _ => rfl) (fun _ => rfl) (fun _ => rfl) abandonRequester_served
  · exact h.mapSlot _ _ (fun _ => rfl) (fun _ => rfl) (fun _ => rfl) (abandonWaiter_served k)
  · rw [recordAbandoned_eq]
    exact h.beside rfl

theorem freeOwned_thins (s : State) (k : Port) : reservationsOf s.res (s.freeOwned k).res := by
  intro e x hx
  rw [State.freeOwned_res, mapAll_getElem] at hx
  split at hx
  · cases hx
  · exact ⟨x, hx, rfl, rfl⟩

/-- Port reset (R22). -/
theorem State.Evolves.portReset (h : s.Evolves u) (k : Port) : s.Evolves (u.portReset k) := by
  have hlatches : s.Evolves { u.abandonFlight k with latches := setAt u.latches k 0 } :=
    (h.abandonFlight k).beside rfl
  have hfreed : s.Evolves (({ u.abandonFlight k with latches := setAt u.latches k 0 } : State).freeOwned k) :=
    hlatches.thinned _ (freeOwned_thins _ k)
  refine ((hfreed.emptyNotices k).unshared k).beside (setPort_sameLines _ ?_)
  rw [State.dropSharer_ports, State.emptyNotices_ports, State.freeOwned_ports, abandonFlight_eq]
  rfl

theorem State.Evolves.softReset (k : Port) : s.Evolves (u.softReset k) := .emptied rfl rfl rfl rfl

theorem State.Evolves.atPowerOn (pin : Bool) : s.Evolves (u.atPowerOn pin) := .emptied rfl rfl rfl rfl

/-! ### The control window (R179 to R193) -/

/-- An access that changes nothing that concerns lines and is answered. -/
theorem State.Evolves.ok (h : s.Evolves u) {v : State} {k : Port} (same : u.SameLines v) : s.Evolves (v.ok k) :=
  (h.beside same).respond k _

theorem State.Evolves.refuse (h : s.Evolves u) (k : Port) : s.Evolves (u.refuse k) := h.respond k _

theorem State.Evolves.writePortCfg (h : s.Evolves u) (j k : Port) (v : Word) : s.Evolves (u.writePortCfg j k v) := by
  unfold State.writePortCfg
  split
  · exact h.respond k _
  · have hwritten : (u.writeMode j (v.getLsbD 0)).SameLines
        ((u.writeMode j (v.getLsbD 0)).writePermission j (v.getLsbD 1) (v.getLsbD 2)) := setPort_sameLines _ rfl
    exact (h.writeMode j _).ok hwritten

theorem State.Evolves.attachPort (h : s.Evolves u) (k : Port) (v : Word) : s.Evolves (u.attachPort k v) := by
  unfold State.attachPort
  split
  · exact h.respond k _
  · exact h.respond k _
  · exact (h.modeWritten _ _ (.inl rfl)).respond k _

theorem State.Evolves.detachPort (h : s.Evolves u) (k : Port) (v : Word) : s.Evolves (u.detachPort k v) := by
  unfold State.detachPort
  split
  · exact h.respond k _
  · exact (h.detach _).respond k _
  · exact h.respond k _

theorem State.Evolves.writeHubState (h : s.Evolves u) (k : Port) (v : Word) : s.Evolves (u.writeHubState k v) := by
  unfold State.writeHubState
  split
  · exact h.ok rfl
  · split
    · exact .softReset k
    · exact h.refuse k

theorem State.Evolves.writePortCmd (h : s.Evolves u) (k : Port) (v : Word) : s.Evolves (u.writePortCmd k v) := by
  unfold State.writePortCmd
  split
  · exact h.attachPort k v
  · split
    · exact h.detachPort k v
    · exact h.refuse k

theorem State.Evolves.writeParameter (h : s.Evolves u) (k : Port) (g : Reg) (v : Word) :
    s.Evolves (u.writeParameter k g v) := by
  cases g with
  | resTime =>
    show s.Evolves (u.writeResTime k v)
    unfold State.writeResTime
    split
    · exact h.ok rfl
    · exact h.refuse k
  | noticeTime =>
    show s.Evolves (u.writeNoticeTime k v)
    unfold State.writeNoticeTime
    split
    · exact h.ok rfl
    · exact h.refuse k
  | urgency =>
    show s.Evolves (u.writeUrgency k v)
    unfold State.writeUrgency
    split
    · exact h.ok rfl
    · exact h.refuse k
  | _ => exact h.refuse k

theorem State.Evolves.writeRegion (h : s.Evolves u) (n : RegionId) (w : Fin 4) (k : Port) (v : Word) :
    s.Evolves (u.writeRegion n w k v) := by
  unfold State.writeRegion
  split
  · exact h.refuse k
  · split
    · exact h.refuse k
    · exact h.ok rfl

theorem State.Evolves.enableRegion (h : s.Evolves u) (k : Port) (v : Word) : s.Evolves (u.enableRegion k v) := by
  unfold State.enableRegion
  split
  · exact h.ok rfl
  · split
    · exact h.refuse k
    · exact h.ok rfl

theorem State.Evolves.disableRegion (h : s.Evolves u) (k : Port) (v : Word) : s.Evolves (u.disableRegion k v) := by
  unfold State.disableRegion
  split
  · exact h.ok rfl
  · split
    · exact h.refuse k
    · exact h.ok rfl

theorem State.Evolves.forceProbe (h : s.Evolves u) (k : Port) (v : Word) : s.Evolves (u.forceProbe k v) := by
  unfold State.forceProbe
  split
  · exact h.refuse k
  · exact h.ok rfl
  · split <;> exact h.ok rfl

theorem State.Evolves.forceOnline (h : s.Evolves u) (k : Port) (v : Word) : s.Evolves (u.forceOnline k v) := by
  unfold State.forceOnline
  split
  · exact h.refuse k
  · exact h.ok rfl
  · have hdropped : s.Evolves (u.dropProbe (regionCmdRegion v)) := h.beside rfl
    exact hdropped.ok (comeOnline_sameLines _ _ _)

theorem State.Evolves.forceOffline (h : s.Evolves u) (k : Port) (v : Word) : s.Evolves (u.forceOffline k v) := by
  unfold State.forceOffline
  split
  · exact h.refuse k
  · exact h.ok rfl
  · exact (h.goOffline _ _ fun _ hv => hv).respond k _

theorem State.Evolves.writeRegionCmd (h : s.Evolves u) (k : Port) (v : Word) : s.Evolves (u.writeRegionCmd k v) := by
  unfold State.writeRegionCmd
  split_ifs
  · exact h.enableRegion k v
  · exact h.disableRegion k v
  · exact h.forceProbe k v
  · exact h.forceOnline k v
  · exact h.forceOffline k v
  · exact h.refuse k

theorem State.Evolves.startSweep (h : s.Evolves u) (c : SweepCommand) (k : Port) (v : Word) :
    s.Evolves (u.startSweep c k v) := by
  unfold State.startSweep
  split
  · exact h.refuse k
  · split
    · exact h.refuse k
    · exact h.ok rfl

theorem State.Evolves.abortSweep (h : s.Evolves u) (k : Port) : s.Evolves (u.abortSweep k) := by
  unfold State.abortSweep
  split <;> exact h.ok rfl

theorem State.Evolves.writeSweepCmd (h : s.Evolves u) (k : Port) (v : Word) : s.Evolves (u.writeSweepCmd k v) := by
  unfold State.writeSweepCmd
  split_ifs
  · exact h.startSweep _ k v
  · exact h.startSweep _ k v
  · exact h.startSweep _ k v
  · exact h.abortSweep k
  · exact h.refuse k

theorem State.Evolves.writeWindow (h : s.Evolves u) (k : Port) (g : Reg) (v : Word) :
    s.Evolves (u.writeWindow k g v) := by
  cases g with
  | hubState => exact h.writeHubState k v
  | portCfg j => exact h.writePortCfg j k v
  | portCmd => exact h.writePortCmd k v
  | resTime => exact h.writeParameter k .resTime v
  | noticeTime => exact h.writeParameter k .noticeTime v
  | urgency => exact h.writeParameter k .urgency v
  | regionCmd => exact h.writeRegionCmd k v
  | sweepCmd => exact h.writeSweepCmd k v
  | regionWord n w => exact h.writeRegion n w k v
  | lineQuery0 | eventPop => exact h.ok rfl
  | sweepStatus0 | sweepStatus1 | lineQuery1 | eventHead0 | eventHead1 | eventStatus => exact h.refuse k

theorem noteRead_sameLines (s : State) (k : Port) (g : Reg) : s.SameLines (s.noteRead k g) := by
  cases g <;> exact rfl

theorem State.Evolves.readWindow (h : s.Evolves u) (k : Port) (g : Reg) : s.Evolves (u.readWindow k g) :=
  (h.beside (noteRead_sameLines u k g)).respond k _

/-- The checks of R179 answer an access or let it have its effect. -/
theorem State.Evolves.checkedAccess (h : s.Evolves u) (k : Port) (t : Transaction) {effect : State → State}
    (he : s.Evolves (effect u)) : s.Evolves (u.checkedAccess k t effect) := by
  unfold State.checkedAccess
  split
  · exact h.respond k _
  · exact he

theorem State.Evolves.controlAccess (h : s.Evolves u) (k : Port) (t : Transaction) :
    s.Evolves (u.controlAccess k t) := by
  refine h.checkedAccess k t ?_
  split
  · exact h
  · split
    · exact h.writeWindow k _ _
    · exact h.readWindow k _

/-- A granted transaction (R17 to R21). -/
theorem State.Evolves.intake (h : s.Evolves u) (k : Port) (t : Transaction) : s.Evolves (u.intake k t) := by
  unfold State.intake
  split
  · exact h.respond k _
  · split
    · exact h.controlAccess k t
    · split
      · exact h.respond k _
      · split
        · exact h.respond k _
        · split
          · exact h.respond k _
          · exact h.directory _

/-! ### Sweeps (R168 to R175) -/

theorem endSweep_sameLines (s : State) (aborted : Bool) : s.SameLines (s.endSweep aborted) := rfl

theorem State.Evolves.advance (h : s.Evolves u) : s.Evolves u.advance := by
  unfold State.advance
  split
  · exact h.beside rfl
  · exact h.beside (endSweep_sameLines u false)

theorem State.Evolves.skipWay (h : s.Evolves u) : s.Evolves u.skipWay := State.Evolves.advance (h.beside rfl)

/-- A sweep takes a line that is not reserved off its way, with room at every sharer (R170, R171). -/
theorem State.Evolves.sweepOut (h : s.Evolves u) {x : Held} (held : u.sweepEntry.held? = some x)
    (unreserved : ¬u.sweepReserved x = true) (room : ¬(u.sweepLacking x).any = true) (kind : NoticeKind) :
    s.Evolves (u.sweepOut x kind) := by
  have hfree : u.resOf (u.sweepLine x) = none := by simpa [State.sweepReserved] using unreserved
  have hnotified := h.noticed kind (u.sweepLine x) x.sharers (lacking_none room)
    ⟨_, _, fun k hk => sharers_of_held held ▸ hk⟩
  have hout := State.Evolves.invalidate (si := u.sweep.set) (w := u.sweep.way) hnotified held hfree
  exact State.Evolves.advance (hout.beside rfl)

theorem State.Evolves.cleanStep (h : s.Evolves u) : s.Evolves u.cleanStep := by
  unfold State.cleanStep
  split
  · exact h.advance
  · exact h.advance
  · split
    · exact h.skipWay
    · exact h.advance
  · next x hx =>
    split
    · unfold State.cleanDirty
      split
      · exact h.skipWay
      · split
        · have hdrained : s.Evolves (u.addDrain .copy (u.sweepLine x) x) := h.beside rfl
          have hheld : u.sweepEntry.held? = some x := by rw [hx]; rfl
          have hcleaned := hdrained.rewritten u.sweep.set u.sweep.way (.clean x) x x hheld rfl rfl fun _ => .inl
          exact State.Evolves.advance (hcleaned.beside rfl)
        · exact h.beside rfl
    · exact h.advance

theorem State.Evolves.flushClean (h : s.Evolves u) {x : Held} (held : u.sweepEntry.held? = some x)
    (unreserved : ¬u.sweepReserved x = true) : s.Evolves (u.flushClean x) := by
  unfold State.flushClean
  split
  · exact h.beside rfl
  · next room => exact h.sweepOut held unreserved room .revoke

theorem State.Evolves.flushDirty (h : s.Evolves u) {x : Held} (held : u.sweepEntry.held? = some x)
    (unreserved : ¬u.sweepReserved x = true) : s.Evolves (u.flushDirty x) := by
  unfold State.flushDirty
  split
  · exact h.skipWay
  · split
    · exact h.beside rfl
    · split
      · exact h.beside rfl
      · next room =>
        have hdrained : s.Evolves (u.addDrain .evict (u.sweepLine x) x).countBack := h.beside rfl
        exact hdrained.sweepOut held unreserved room .revoke

theorem State.Evolves.flushStep (h : s.Evolves u) : s.Evolves u.flushStep := by
  unfold State.flushStep
  split
  · exact h.advance
  · split
    · exact h.skipWay
    · exact h.advance
  · next x hx =>
    split
    · split
      · exact h.skipWay
      · next hr => exact h.flushClean (by rw [hx]; rfl) hr
    · exact h.advance
  · next x hx =>
    split
    · split
      · exact h.skipWay
      · next hr => exact h.flushDirty (by rw [hx]; rfl) hr
    · exact h.advance

theorem State.Evolves.discardHeld (h : s.Evolves u) {x : Held} (held : u.sweepEntry.held? = some x) :
    s.Evolves (u.discardHeld x) := by
  unfold State.discardHeld
  split
  · exact h.skipWay
  · next hr =>
    split
    · exact h.beside rfl
    · next room => exact h.sweepOut held hr room .invalidate

theorem State.Evolves.discardStep (h : s.Evolves u) : s.Evolves u.discardStep := by
  unfold State.discardStep
  split
  · exact h.advance
  · split
    · exact h.skipWay
    · exact h.advance
  · next x hx =>
    split
    · exact h.discardHeld (by rw [hx]; rfl)
    · exact h.advance
  · next x hx =>
    split
    · exact h.discardHeld (by rw [hx]; rfl)
    · exact h.advance

/-! ### Foreign writes and notices (R103, R106, R117 to R125) -/

theorem recordConflict_sameLines (s : State) (l : LineAddr) (dirty : Option RegionId) :
    s.SameLines (s.recordConflict l dirty) := by
  unfold State.recordConflict
  split
  · exact .refl s
  · exact rfl

/-- A foreign write takes a held line off its way and frees its reservation (R93, R120). -/
theorem State.Evolves.foreignOut (h : s.Evolves u) {l : LineAddr} {w : WayIdx} {x : Held}
    (line : lineAt x.tag (setOf l) = l) (held : (u.entry (setOf l) w).held? = some x) (room : u.roomFor x.sharers l) :
    s.Evolves (((u.sendNotices .invalidate l x.sharers).invalidate (setOf l) w).freeLine l).popForeign := by
  have hfreed : s.Evolves ((u.sendNotices .invalidate l x.sharers).freeLine l) :=
    (h.noticed .invalidate l x.sharers room ⟨_, w, fun k hk => sharers_of_held held ▸ hk⟩).freeLine l
  have hunreserved : ((u.sendNotices .invalidate l x.sharers).freeLine l).resOf (lineAt x.tag (setOf l)) = none := by
    rw [line, freeLine_resOf]
  exact (hfreed.invalidate held hunreserved).beside rfl

/-- An evaluation is deferred, or takes the line off its way (R117, R119, R120). -/
theorem State.Evolves.evaluateHeld (h : s.Evolves u) {l : LineAddr} {w : WayIdx} {x : Held} (hw : u.lookup l = some w)
    (held : (u.entry (setOf l) w).held? = some x) : s.Evolves (u.evaluateHeld l w x) := by
  have hline : lineAt x.tag (setOf l) = l := by
    have htag : some x.tag = some (tagOf l) := (Entry.tag?_of_held held).symm.trans (lookup_tag hw)
    rw [Option.some.inj htag, lineAt_tagOf_setOf]
  unfold State.evaluateHeld
  split
  · exact h.beside rfl
  · next room =>
    have hsame := recordConflict_sameLines u l (u.entry (setOf l) w).dirtyRegion?
    have hheld : ((u.recordConflict l (u.entry (setOf l) w).dirtyRegion?).entry (setOf l) w).held? = some x := by
      rw [State.entry, hsame.dir]
      exact held
    have hroom : (u.recordConflict l (u.entry (setOf l) w).dirtyRegion?).roomFor x.sharers l := by
      rw [State.roomFor, hsame.notices]
      exact lacking_none room
    exact (h.beside hsame).foreignOut hline hheld hroom

theorem State.Evolves.evaluate (h : s.Evolves u) : s.Evolves u.evaluate := by
  have hpop (v : State) (l : LineAddr) (hv : s.Evolves v) : s.Evolves (v.recordConflict l none).popForeign :=
    (hv.beside (recordConflict_sameLines v l none)).beside rfl
  unfold State.evaluate
  split
  · exact h
  · unfold State.evaluateLine
    split
    · exact hpop u _ h
    · next hw =>
      split
      · next x hx => exact h.evaluateHeld hw (by rw [hx]; rfl)
      · next x hx => exact h.evaluateHeld hw (by rw [hx]; rfl)
      · exact hpop _ _ (h.mapSlot _ _ (fun _ => rfl) (fun _ => rfl) (fun _ => rfl) fun _ _ hq => hq)
      · exact hpop u _ h

theorem acknowledged_sound {q : NoticeQueue} (time : Nat) (h : q.sound) : (q.acknowledged time).sound := by
  obtain ⟨hlength, hnodup, -⟩ := h
  refine ⟨(List.length_tail ▸ Nat.sub_le _ _).trans hlength, ?_, ?_⟩
  · exact hnodup.sublist ((List.tail_sublist _).map _)
  · simp [NoticeQueue.acknowledged, List.isEmpty_iff]

/-- The head notice leaves its queue (R103). -/
theorem State.Evolves.acknowledge (h : s.Evolves u) (k : Port) : s.Evolves (u.acknowledge k) := by
  refine State.Evolves.beside (h.relieved (setAt u.notices k
    (u.notices[k].acknowledged u.noticeTime.toNat)) fun j => ?_) rfl
  rw [setAt_getElem]
  split
  · next hk =>
    subst hk
    exact ⟨List.tail_sublist _, acknowledged_sound _⟩
  · exact ⟨List.Sublist.refl _, id⟩

theorem State.Evolves.noticeTimedOut (h : s.Evolves u) (k : Port) : s.Evolves (u.noticeTimedOut k) := by
  unfold State.noticeTimedOut
  split
  · exact h
  · exact (h.detach k).record _

end Device

/-! ### Every step -/

section Steps

variable {s t : State}

theorem happen_evolves {p : Bool} {f : State → State} (h : happen s p f = .next t)
    (hf : s.Evolves s.quiet → s.Evolves (f s.quiet)) : s.Evolves t := by
  obtain hn | ⟨-, -, hn⟩ := happen_cases s p f
  · rw [hn] at h
    obtain rfl := Host.Outcome.next.inj h
    exact .refl
  · rw [hn] at h
    obtain rfl := Host.Outcome.next.inj h
    exact hf (State.Evolves.refl.beside rfl)

theorem takeRequest_evolves {named : Transaction → Bool} {f : State → Port → Transaction → State}
    (h : takeRequest s named f = .next t)
    (hf : ∀ (u : State) (k : Port) (x : Transaction), s.Evolves u → s.Evolves (f u k x)) : s.Evolves t := by
  obtain hn | ⟨k, x, -, -, hn⟩ := takeRequest_cases s named f
  · rw [hn] at h
    obtain rfl := Host.Outcome.next.inj h
    exact .refl
  · rw [hn] at h
    obtain rfl := Host.Outcome.next.inj h
    exact hf _ k x (State.Evolves.refl.beside rfl)

theorem takeIntake_evolves {named : Transaction → Bool} (h : takeRequest s named State.intake = .next t) :
    s.Evolves t :=
  takeRequest_evolves h fun _ k x hu => hu.intake k x

/-- A row of the window that is a write of a command. -/
theorem takeWrite_evolves {named : Reg → Bool} {value : Word → Bool} {effect : State → Port → Word → State}
    (h : takeWrite s named value effect = .next t)
    (he : ∀ (u : State) (k : Port) (v : Word), s.Evolves u → s.Evolves (effect u k v)) : s.Evolves t :=
  takeRequest_evolves h fun _ k x hu => hu.checkedAccess k x (he _ k x.wdata hu)

theorem execPortReset_evolves {k : Port} (h : execPortReset k s = .next t) : s.Evolves t := by
  unfold execPortReset at h
  split at h <;> obtain rfl := Host.Outcome.next.inj h
  · exact State.Evolves.refl.beside (setPort_sameLines s rfl)
  · have hquiet : s.Evolves s.quiet := State.Evolves.refl.beside rfl
    exact hquiet.portReset k

theorem execPortResetDeassert_evolves {k : Port} (h : execPortResetDeassert k s = .next t) : s.Evolves t := by
  unfold execPortResetDeassert at h
  split at h <;> obtain rfl := Host.Outcome.next.inj h
  · exact State.Evolves.refl.beside (setPort_sameLines s rfl)
  · exact State.Evolves.beside (State.Evolves.refl.beside rfl) (setPort_sameLines s.quiet rfl)

theorem execPowerOnReset_evolves {asserted : Bool} (h : execPowerOnReset asserted s = .next t) : s.Evolves t := by
  unfold execPowerOnReset at h
  split at h
  · obtain rfl := Host.Outcome.next.inj h
    exact .atPowerOn true
  · split at h <;> obtain rfl := Host.Outcome.next.inj h
    · rw [resetAsserted_atPowerOn]
      exact .atPowerOn false
    · exact .refl

theorem execExpiry_evolves {e : ResId} (h : execExpiry e s = .next t) : s.Evolves t := by
  refine happen_evolves h fun hq => (hq.elapse _).thinned _ fun j x hx => ?_
  rw [setAt_getElem] at hx
  split at hx
  · cases hx
  · exact ⟨x, hx, rfl, rfl⟩

theorem execPortCfg_evolves (h : execPortCfg s = .next t) : s.Evolves t := by
  refine takeRequest_evolves h fun u k x hu => hu.checkedAccess k x ?_
  split
  · exact hu
  · exact hu.writePortCfg _ k _

theorem execRegion_evolves (h : execRegion s = .next t) : s.Evolves t := by
  refine takeRequest_evolves h fun u k x hu => hu.checkedAccess k x ?_
  split
  · exact hu
  · exact hu.writeRegion _ _ k _

theorem execControlWindowWrite_evolves (h : execControlWindowWrite s = .next t) : s.Evolves t := by
  refine takeRequest_evolves h fun u k x hu => hu.checkedAccess k x ?_
  split
  · exact hu
  · exact hu.writeParameter k _ _

theorem execEventHead_evolves (h : execEventHead s = .next t) : s.Evolves t := by
  refine takeRequest_evolves h fun u k x hu => hu.checkedAccess k x ?_
  split
  · exact hu.readWindow k _
  · exact hu.readWindow k _

/-- What every command can do to the blocks that concern lines. -/
theorem exec_evolves (c : Instr) (h : exec c s = .next t) : s.Evolves t := by
  cases c with
  | acceptance k x =>
    exact happen_evolves (show execAcceptance k x s = _ from h) fun hq =>
      (hq.beside (place_sameLines _ k (.atPort x))).beside rfl
  | read | write | lineRead | lineWrite | reserveRead | releaseWrite | release => exact takeIntake_evolves h
  | portReset k => exact execPortReset_evolves h
  | portResetDeassert k => exact execPortResetDeassert_evolves h
  | powerOnReset asserted => exact execPowerOnReset_evolves h
  | ack data => exact happen_evolves (show execAck data s = _ from h) fun hq => hq.acked data
  | err withAck => exact happen_evolves (show execErr withAck s = _ from h) fun hq => hq.errored
  | readyTimeout => exact happen_evolves (show execReadyTimeout s = _ from h) fun hq => (hq.elapse _).timedOut
  | probeTimerRunOut r =>
    exact happen_evolves (show execProbeTimerRunOut r s = _ from h) fun hq => (hq.elapse _).beside rfl
  | expiry e => exact execExpiry_evolves h
  | acknowledgement k w => exact happen_evolves (show execAcknowledgement k w s = _ from h) fun hq => hq.acknowledge k
  | noticeTimeout k =>
    exact happen_evolves (show execNoticeTimeout k s = _ from h) fun hq => (hq.elapse _).noticeTimedOut k
  | foreignWrite a => exact happen_evolves (show execForeignWrite a s = _ from h) fun hq => hq.beside rfl
  | evaluation => exact happen_evolves (show execEvaluation s = _ from h) fun hq => hq.evaluate
  | cleanSweepStep => exact happen_evolves (show execCleanSweepStep s = _ from h) fun hq => hq.cleanStep
  | flushSweepStep => exact happen_evolves (show execFlushSweepStep s = _ from h) fun hq => hq.flushStep
  | discardSweepStep => exact happen_evolves (show execDiscardSweepStep s = _ from h) fun hq => hq.discardStep
  | run => exact takeWrite_evolves (show execRun s = _ from h) fun _ _ _ hu => hu.ok rfl
  | softReset => exact takeWrite_evolves (show execSoftReset s = _ from h) fun u k _ _ => .softReset k
  | portCfg => exact execPortCfg_evolves h
  | attach => exact takeWrite_evolves (show execAttach s = _ from h) fun u k v hu => hu.attachPort k v
  | detach => exact takeWrite_evolves (show execDetach s = _ from h) fun u k v hu => hu.detachPort k v
  | controlWindowWrite => exact execControlWindowWrite_evolves h
  | region => exact execRegion_evolves h
  | enable => exact takeWrite_evolves (show execEnable s = _ from h) fun u k v hu => hu.enableRegion k v
  | disable => exact takeWrite_evolves (show execDisable s = _ from h) fun u k v hu => hu.disableRegion k v
  | forceProbe => exact takeWrite_evolves (show execForceProbe s = _ from h) fun u k v hu => hu.forceProbe k v
  | forceOnline => exact takeWrite_evolves (show execForceOnline s = _ from h) fun u k v hu => hu.forceOnline k v
  | forceOffline => exact takeWrite_evolves (show execForceOffline s = _ from h) fun u k v hu => hu.forceOffline k v
  | clean => exact takeWrite_evolves (show execClean s = _ from h) fun u k v hu => hu.startSweep .clean k v
  | flush => exact takeWrite_evolves (show execFlush s = _ from h) fun u k v hu => hu.startSweep .flush k v
  | discard => exact takeWrite_evolves (show execDiscard s = _ from h) fun u k v hu => hu.startSweep .discard k v
  | abort => exact takeWrite_evolves (show execAbort s = _ from h) fun u k _ hu => hu.abortSweep k
  | lineQuery => exact takeWrite_evolves (show execLineQuery s = _ from h) fun _ _ _ hu => hu.ok rfl
  | eventHead => exact execEventHead_evolves h
  | eventPop => exact takeWrite_evolves (show execEventPop s = _ from h) fun _ _ _ hu => hu.ok rfl

/-- What every step can do to the blocks that concern lines, from the state as it is or without the command it
takes. -/
theorem step_evolves (h : step s = .next t) : ∃ u, s.SameLines u ∧ u.Evolves t := by
  unfold step at h
  split at h
  · split at h
    · obtain rfl := Host.Outcome.next.inj h
      refine ⟨s, .refl s, ?_⟩
      unfold State.tick
      split
      · exact .refl
      · exact State.Evolves.refl.elapse 1
    · exact ⟨s, .refl s, exec_evolves _ h⟩
  · next c cs _ => exact ⟨s.withPending cs, rfl, exec_evolves c h⟩

end Steps

/-- Settles O4: each change leaves the recency lists as they are, or moves a way to the front or the back. -/
theorem stepKeepsRecencyOrdered : Obligations.StepKeepsRecencyOrdered := by
  unfold Obligations.StepKeepsRecencyOrdered
  intro s t h hstep
  obtain ⟨u, same, hu⟩ := step_evolves hstep
  exact hu.recencyOrdered ((State.Evolves.refl.beside same).recencyOrdered h)

/-- Settles O6: notices go to sharers with room, and a port that stops being COHERENT and ATTACHED shares nothing. -/
theorem stepKeepsSharersAndNoticesCoherent : Obligations.StepKeepsSharersAndNoticesCoherent := by
  unfold Obligations.StepKeepsSharersAndNoticesCoherent
  intro s t h hstep
  obtain ⟨u, same, hu⟩ := step_evolves hstep
  exact hu.coherent ((State.Evolves.refl.beside same).coherent h)

/-- Settles O7: each change keeps the limits, and keeps the ways, the fill slots and the reservations in agreement. -/
theorem stepKeepsReservationLimits : Obligations.StepKeepsReservationLimits := by
  unfold Obligations.StepKeepsReservationLimits
  refine ⟨fun s t h hstep => ?_, fun s t h hstep => ?_⟩ <;> obtain ⟨u, same, hu⟩ := step_evolves hstep
  · exact hu.reservationsSound ((State.Evolves.refl.beside same).reservationsSound h)
  · exact hu.linesSound ((State.Evolves.refl.beside same).linesSound h)

end Sys2Proof.Machine

/-! ## Transactions at the Line Directory

The next state of each meaning of the directory, first for any state and then for the one in which the granted
transaction has been taken (`State.taken`). -/

namespace Sys2Proof.Machine

/-! ### Rules for the operations of hit service (R30 to R37) -/

section Rules

variable {s : State} {q : Request} {w : WayIdx} {h : Held}

/-- A response in the terms of R13. -/
theorem respond_eq (s : State) (k : Port) (r : Response) :
    s.respond k r = { s with
      ports := setAt s.ports k (s.ports[k].idleAfter r)
      out := { s.out with responses := s.out.responses ++ [(k, r)] } } := by
  rw [State.respond, answered_eq_idleAfter]

/-- A way moves to the front with its entry as it is (R39). -/
theorem touch_eq (s : State) (si : SetIdx) (w : WayIdx) :
    s.touch si w = { s with dir := s.withFront si w (s.entry si w) } := by
  rw [State.withFront, State.entry, setAt_self]
  rfl

/-- A way takes an entry and moves to the front (R39). -/
theorem setEntry_touch (s : State) (si : SetIdx) (w : WayIdx) (e : Entry) :
    (s.setEntry si w e).touch si w = { s with dir := s.withFront si w e } := by
  rw [State.touch, State.setEntry_dir, setAt_setAt, setAt_getElem_self]
  rfl

/-- A held line that is put back is as it was. -/
theorem withHeld_self {e : Entry} (he : e.held? = some h) : e.withHeld h = e := by
  cases e <;> simp_all [Entry.held?, Entry.withHeld]

/-- A set of ports cut down to one (R34). -/
theorem PortSet.only_eq (S : PortSet) (k : Port) : S.only k = Vector.ofFn fun j => S[j] && j == k := by
  refine Vector.ext fun j hj => ?_
  have hone := setAt_getElem PortSet.empty k ⟨j, hj⟩ S[k]
  rw [PortSet.empty_getElem] at hone
  rw [Vector.getElem_ofFn]
  refine hone.trans ?_
  split
  · next hk => simp [hk]
  · next hk => simp [Ne.symm hk]

/-- A line after a write's bytes, by the kind of the write (R33). -/
theorem written_eq (t : Transaction) (d : Line) :
    t.written d = if t.kind = .lineWrite then t.ldata else setAt d t.word (mergeLanes t.lanes d[t.word] t.wdata) := by
  unfold Transaction.written
  split
  · next hk => rw [if_pos hk]
  · next hk => rw [if_neg hk]

/-- A line without a reserver is named by no entry (R78). -/
theorem reserver_eq_none {l : LineAddr} : s.reserver l = none ↔ s.resOf l = none := by
  constructor
  · intro hr
    cases hi : s.resOf l with
    | none => rfl
    | some i =>
      obtain ⟨x, hx, -⟩ := reserves_iff.mp (resOf_reserves hi)
      simp [-Fin.getElem_fin, State.reserver, hi, hx] at hr
  · intro hi
    rw [State.reserver, hi]
    rfl

/-- Another port's reservation stands against a transaction (R30). -/
theorem reservedByOther_of_ne {l : LineAddr} {j k : Port} (hj : s.reserver l = some j) (hne : j ≠ k) :
    s.reservedByOther l k = true := by
  simp [State.reservedByOther, hj, hne]

/-- No other port's reservation stands against a transaction (R30). -/
theorem reservedByOther_of_own {l : LineAddr} {k : Port} (hown : s.reserver l = none ∨ s.reserver l = some k) :
    s.reservedByOther l k = false := by
  obtain hr | hr := hown <;> simp [State.reservedByOther, hr]

/-- The first check of a write: an OFFLINE write-through region (R30). -/
theorem writeRefusal_offline (hwt : s.isWriteThrough q.region = true) (hoff : s.isOffline q.region = true) :
    s.writeRefusal q h = some (.fault .offline) := by
  simp [State.writeRefusal, hwt, hoff]

/-- The second check of a write: notice room at every other sharer (R30, R34). -/
theorem writeRefusal_of_online (hon : ¬(s.isWriteThrough q.region = true ∧ s.isOffline q.region = true)) :
    (s.roomFor (h.sharers.erase q.port) q.txn.line → s.writeRefusal q h = none) ∧
      (¬s.roomFor (h.sharers.erase q.port) q.txn.line → s.writeRefusal q h = some (.retry .noticeFull)) := by
  rw [State.writeRefusal, if_neg (by simpa using hon)]
  exact ⟨fun hroom => if_neg fun hl => lacking_any.mp hl hroom, fun hroom => if_pos (lacking_any.mpr hroom)⟩

theorem serveWrite_reserved (hr : s.reservedByOther q.txn.line q.port = true) :
    s.serveWrite q w h = s.respond q.port (.retry .reserved) := by
  rw [State.serveWrite, if_pos hr]

theorem serveWrite_refused {r : Response} (hr : s.reservedByOther q.txn.line q.port = false)
    (hw : s.writeRefusal q h = some r) : s.serveWrite q w h = s.respond q.port r := by
  rw [State.serveWrite, if_neg (by simp [hr]), hw]

theorem serveWrite_performed (hr : s.reservedByOther q.txn.line q.port = false) (hw : s.writeRefusal q h = none) :
    s.serveWrite q w h = (s.writeLine q w h).finishWrite q := by
  rw [State.serveWrite, if_neg (by simp [hr]), hw]

/-- A performed write's notices, and its line at the front (R33 to R35). -/
theorem writeLine_eq (s : State) (q : Request) (w : WayIdx) (h : Held) :
    s.writeLine q w h = { s with
      notices := s.notified .invalidate q.txn.line (h.sharers.erase q.port)
      dir := s.withFront (setOf q.txn.line) w (s.writtenEntry q h) } := by
  rw [State.writeLine, setEntry_touch]
  rfl

/-- The line that a performed write leaves (R33, R34). -/
def Held.afterWrite (h : Held) (k : Port) (t : Transaction) : Held :=
  { h with data := t.written h.data, sharers := Vector.ofFn fun j => h.sharers[j] && j == k }

theorem writtenEntry_eq (s : State) (q : Request) (h : Held) :
    s.writtenEntry q h =
      if s.isWriteThrough q.region then .clean (h.afterWrite q.port q.txn) else .dirty (h.afterWrite q.port q.txn) := by
  rw [State.writtenEntry, PortSet.only_eq]
  rfl

end Rules

/-! ### Hits of a granted transaction (R30 to R37) -/

section Hits

variable {s : State} {k : Port} {t : Transaction} {r : RegionId} {w : WayIdx} {h : Held}

/-- The transaction of a port as the directory takes it. -/
abbrev requestOf (k : Port) (t : Transaction) (r : RegionId) : Request := { port := k, txn := t, region := r }

/-- A write performed in a write-back region is answered DONE (R33). -/
theorem taken_write_back (hwt : s.isWriteThrough r = false) :
    ((s.taken k).writeLine (requestOf k t r) w h).finishWrite (requestOf k t r) =
      { s.answering k (.done .nothing) with
        notices := s.notified .invalidate t.line (setAt h.sharers k false)
        dir := s.withFront (setOf t.line) w (.dirty (h.afterWrite k t)) } := by
  have hback : ((s.taken k).writeLine (requestOf k t r) w h).isWriteThrough r = false := hwt
  have hentry : (s.taken k).writtenEntry (requestOf k t r) h = .dirty (h.afterWrite k t) := by
    rw [writtenEntry_eq, if_neg (by rw [show (s.taken k).isWriteThrough r = false from hwt]; nofun)]
  rw [State.finishWrite, if_neg (by rw [hback]; nofun), respond_eq, writeLine_eq, hentry]
  rfl

/-- A write performed in a write-through region becomes a port operation (R35). -/
theorem taken_write_through (hwt : s.isWriteThrough r = true) :
    ((s.taken k).writeLine (requestOf k t r) w h).finishWrite (requestOf k t r) =
      { s.placing k .portOp with
        notices := s.notified .invalidate t.line (setAt h.sharers k false)
        dir := s.withFront (setOf t.line) w (.clean (h.afterWrite k t))
        dev := s.dev.submit s.regions k ((requestOf k t r).portOp true) } := by
  have hthrough : ((s.taken k).writeLine (requestOf k t r) w h).isWriteThrough r = true := hwt
  have hentry : (s.taken k).writtenEntry (requestOf k t r) h = .clean (h.afterWrite k t) := by
    rw [writtenEntry_eq, if_pos (show (s.taken k).isWriteThrough r = true from hwt)]
  rw [State.finishWrite, if_pos hthrough, writeLine_eq, hentry]
  rfl

/-- The command of a kind serves a hit of that kind. -/
theorem exec_hit_of_kind {κ : Kind} (hk : t.kind = κ) (hr : s.reaches k t r) (hh : s.hits t.line w h) :
    exec κ.command s = .next ((s.taken k).serveHeld (requestOf k t r) w h) := hk ▸ exec_hits hr hh

/-- The command of a WRITE or LINE_WRITE that hits. -/
theorem exec_write_hit (hk : t.kind = .write ∨ t.kind = .lineWrite) (hr : s.reaches k t r) (hh : s.hits t.line w h) :
    exec t.kind.command s = .next ((s.taken k).serveWrite (requestOf k t r) w h) := by
  rw [exec_hits hr hh]
  obtain hk | hk := hk <;> simp only [State.serveHeld, hk]

/-- Settles O20: a hit is answered, and its way moves to the front. -/
theorem readHitsReturnData : Obligations.ReadHitsReturnData := by
  unfold Obligations.ReadHitsReturnData
  intro s k t r w h hr hh
  have hline (hk : t.kind = .lineRead) :
      exec .lineRead s = .next ((s.taken k).serveLineRead (requestOf k t r) w h) := by
    refine (exec_hit_of_kind hk hr hh).trans ?_
    simp only [State.serveHeld, hk]
  refine ⟨fun hk => ?_, fun hk hkeep hmode => ?_, fun hk hno => ?_⟩
  · refine (exec_hit_of_kind hk hr hh).trans ?_
    simp only [State.serveHeld, hk, State.serveRead]
    rw [touch_eq, respond_eq]
    rfl
  · have hhonoured : (s.taken k).keepHonoured (requestOf k t r) = true := by
      have hmode' : (s.taken k).ports[k].mode = .coherent true := hmode
      simp [-Fin.getElem_fin, State.keepHonoured, hkeep, hmode', Mode.attached]
    rw [hline hk, State.serveLineRead, hhonoured, setEntry_touch, respond_eq]
    rfl
  · have hhonoured : (s.taken k).keepHonoured (requestOf k t r) = false := by
      by_contra hkeep
      rw [Bool.not_eq_false] at hkeep
      have hmode := mode_of_keepHonoured hkeep
      rw [State.keepHonoured, Bool.and_eq_true] at hkeep
      exact hno ⟨hkeep.1, hmode⟩
    have hheld : ((s.taken k).entry (setOf t.line) w).held? = some h := hh.2
    rw [hline hk, State.serveLineRead, hhonoured, show h.share (requestOf k t r).port false = h from rfl,
      withHeld_self hheld, setEntry_touch, respond_eq]
    rfl

/-- Settles O21: no check refuses the write, and the region is write-back. -/
theorem writeHitMakesLineDirty : Obligations.WriteHitMakesLineDirty := by
  unfold Obligations.WriteHitMakesLineDirty
  intro s k t r w h hk hr hh hwt hown hroom
  have hon : ¬(s.isWriteThrough r = true ∧ s.isOffline r = true) := by simp [hwt]
  have hallowed : (s.taken k).writeRefusal (requestOf k t r) h = none := (writeRefusal_of_online hon).1 hroom
  have hfree : (s.taken k).reservedByOther t.line k = false := reservedByOther_of_own hown
  rw [exec_write_hit hk hr hh, serveWrite_performed (q := requestOf k t r) hfree hallowed, taken_write_back hwt,
    ← written_eq]
  rfl

/-- Settles O22: no check refuses the write, and the region is write-through. -/
theorem writeThroughHitMakesPortOperation : Obligations.WriteThroughHitMakesPortOperation := by
  unfold Obligations.WriteThroughHitMakesPortOperation
  intro s k t r w h hk hr hh hwt hon hown hroom
  have honline : ¬(s.isWriteThrough r = true ∧ s.isOffline r = true) := by simp [hon]
  have hallowed : (s.taken k).writeRefusal (requestOf k t r) h = none := (writeRefusal_of_online honline).1 hroom
  have hfree : (s.taken k).reservedByOther t.line k = false := reservedByOther_of_own hown
  rw [exec_write_hit hk hr hh, serveWrite_performed (q := requestOf k t r) hfree hallowed, taken_write_through hwt,
    ← written_eq]
  rfl

/-- Settles O23, by the order of the checks on a write hit. -/
theorem writeHitRefusedInOrder : Obligations.WriteHitRefusedInOrder := by
  unfold Obligations.WriteHitRefusedInOrder
  intro s k t r w h hk hr hh
  rw [exec_write_hit hk hr hh]
  have hanswer {a : Response} (hown : s.reserver t.line = none ∨ s.reserver t.line = some k)
      (ha : (s.taken k).writeRefusal (requestOf k t r) h = some a) :
      (s.taken k).serveWrite (requestOf k t r) w h = s.answering k a := by
    have hfree : (s.taken k).reservedByOther t.line k = false := reservedByOther_of_own hown
    exact (serveWrite_refused (q := requestOf k t r) hfree ha).trans (taken_respond s k a)
  refine ⟨fun j hj hne => ?_, fun hown hwt hoff => ?_, fun hown hon hroom => ?_⟩
  · have hother : (s.taken k).reservedByOther t.line k = true := reservedByOther_of_ne hj hne
    rw [serveWrite_reserved (q := requestOf k t r) hother, taken_respond]
  · rw [hanswer hown (writeRefusal_offline hwt hoff)]
  · rw [hanswer hown ((writeRefusal_of_online hon).2 hroom)]

end Hits

end Sys2Proof.Machine

namespace Sys2Proof.Machine

/-! ### Reservation kinds that hit, and fills that are joined (R28, R36, R37, R55) -/

section ReservationHits

variable {s : State} {k : Port} {t : Transaction} {r : RegionId} {w : WayIdx} {h : Held}

/-- A grant or refresh of entry `i` returns the word (R36, R81, R82). -/
theorem taken_grantRead (s : State) (k : Port) (t : Transaction) (r : RegionId) (w : WayIdx) (h : Held) (i : ResId) :
    (s.taken k).grantRead (requestOf k t r) w h i =
      { s.answering k (.done (.word (h.data[t.word] &&& byteMask t.lanes))) with
        dir := s.withFront (setOf t.line) w (s.entry (setOf t.line) w)
        res := setAt s.res i (some { owner := k, line := t.line, word := t.word, remaining := s.resTime.toNat }) } := by
  rw [State.grantRead, State.serveRead, touch_eq, respond_eq]
  rfl

/-- The command of a RESERVE_READ that hits. -/
theorem exec_reserve_hit (hk : t.kind = .reserveRead) (hr : s.reaches k t r) (hh : s.hits t.line w h) :
    exec .reserveRead s = .next ((s.taken k).serveReserve (requestOf k t r) w h) := by
  refine (exec_hit_of_kind hk hr hh).trans ?_
  simp only [State.serveHeld, hk]

section Own

variable {q : Request} (hr : s.reservedByOther q.txn.line q.port = false)
include hr

/-- A port's own reservation is refreshed, whatever the limits (R79, R82). -/
theorem serveReserve_refresh {i : ResId} (hi : s.resOf q.txn.line = some i) :
    s.serveReserve q w h = s.grantRead q w h i := by
  rw [State.serveReserve, if_neg (by simp [hr]), hi]

/-- The first limit is the port's own (R79). -/
theorem serveReserve_limit (hnone : s.resOf q.txn.line = none) (hlimit : 2 ≤ s.owned q.port) :
    s.serveReserve q w h = s.respond q.port (.fault .resLimit) := by
  rw [State.serveReserve, if_neg (by simp [hr]), hnone]
  exact if_pos hlimit

/-- Within the port's limit a table of six HELD entries refuses (R79). -/
theorem serveReserve_full (hnone : s.resOf q.txn.line = none) (hfew : s.owned q.port < 2) (hfull : s.freeRes = none) :
    s.serveReserve q w h = s.respond q.port (.retry .resFull) := by
  simp only [State.serveReserve, hr, hnone, hfull, Nat.not_le.mpr hfew, Bool.false_eq_true, if_false]

/-- A grant takes the entry chosen for it (R81). -/
theorem serveReserve_grant {i : ResId} (hnone : s.resOf q.txn.line = none) (hfew : s.owned q.port < 2)
    (hfree : s.freeRes = some i) : s.serveReserve q w h = s.grantRead q w h i := by
  simp only [State.serveReserve, hr, hnone, hfree, Nat.not_le.mpr hfew, Bool.false_eq_true, if_false]

end Own

/-- No entry is FREE when all six are HELD (R79). -/
theorem freeRes_eq_none : s.freeRes = none ↔ ∀ i : ResId, s.res[i] ≠ none := by
  simp [-Fin.getElem_fin, State.freeRes, List.find?_eq_none, mem_allRes]

/-- The first that a list in ascending order finds is the least there is. -/
theorem find_ascending {n : Nat} {l : List (Fin n)} {p : Fin n → Bool} {i : Fin n} (hl : l.Pairwise (· < ·))
    (hmem : i ∈ l) (hi : p i = true) (hleast : ∀ j, j < i → p j = false) : l.find? p = some i := by
  obtain ⟨before, after, rfl⟩ := List.append_of_mem hmem
  refine List.find?_eq_some_iff_append.mpr ⟨hi, before, after, rfl, fun j hj => ?_⟩
  have hlt : j < i := (List.pairwise_append.mp hl).2.2 j hj i List.mem_cons_self
  simp [hleast j hlt]

/-- The FREE entry of the lowest number is the one granted (R81). -/
theorem freeRes_eq_some {i : ResId} (hi : s.res[i] = none) (hleast : ∀ j : ResId, j < i → s.res[j] ≠ none) :
    s.freeRes = some i := by
  refine find_ascending (by decide) (mem_allRes i) (by rw [hi]; rfl) fun j hj => ?_
  rw [← Bool.not_eq_true, Option.isNone_iff_eq_none]
  exact hleast j hj

/-- Settles O24, by the order of the checks on a RESERVE_READ hit. -/
theorem reserveReadHitGrantsOrRefreshes : Obligations.ReserveReadHitGrantsOrRefreshes := by
  unfold Obligations.ReserveReadHitGrantsOrRefreshes
  intro s k t r w h hk hr hh
  have hown (hres : s.reserver t.line = none ∨ s.reserver t.line = some k) :
      (s.taken k).reservedByOther (requestOf k t r).txn.line (requestOf k t r).port = false :=
    reservedByOther_of_own (s := s) hres
  rw [exec_reserve_hit hk hr hh]
  refine ⟨fun j hj hne => ?_, fun i hres hi => ?_, fun hres hlimit => ?_, fun hres hfew hfull => ?_,
    fun i hres hfew hi hleast => ?_⟩
  · have hother : (s.taken k).reservedByOther t.line k = true := reservedByOther_of_ne hj hne
    rw [State.serveReserve, if_pos hother, taken_respond]
  · rw [serveReserve_refresh (hown (.inr hres)) hi, taken_grantRead]
  · rw [serveReserve_limit (hown (.inl hres)) (reserver_eq_none.mp hres) hlimit, taken_respond]
  · have hnone : (s.taken k).freeRes = none := freeRes_eq_none.mpr hfull
    rw [serveReserve_full (hown (.inl hres)) (reserver_eq_none.mp hres) hfew hnone, ← taken_respond]
  · have hsome : (s.taken k).freeRes = some i := freeRes_eq_some hi hleast
    rw [serveReserve_grant (hown (.inl hres)) (reserver_eq_none.mp hres) hfew hsome, ← taken_grantRead]

/-- The command of a RELEASE_WRITE that hits. -/
theorem exec_releaseWrite_hit (hk : t.kind = .releaseWrite) (hr : s.reaches k t r) (hh : s.hits t.line w h) :
    exec .releaseWrite s = .next ((s.taken k).serveReleaseWrite (requestOf k t r) w h) := by
  refine (exec_hit_of_kind hk hr hh).trans ?_
  simp only [State.serveHeld, hk]

/-- A RELEASE_WRITE is answered LATE, refused, or performed with its reservation freed (R37, R87). -/
theorem serveReleaseWrite_cases (s : State) (q : Request) (w : WayIdx) (h : Held) :
    (s.reserver q.txn.line ≠ some q.port → s.serveReleaseWrite q w h = s.respond q.port .late) ∧
      (s.reserver q.txn.line = some q.port →
        (∀ a, s.writeRefusal q h = some a → s.serveReleaseWrite q w h = s.respond q.port a) ∧
        (s.writeRefusal q h = none →
          s.serveReleaseWrite q w h = ((s.writeLine q w h).freeLine q.txn.line).finishWrite q)) := by
  rw [State.serveReleaseWrite]
  refine ⟨fun hno => if_neg hno, fun hown => ⟨fun a ha => ?_, fun hnone => ?_⟩⟩
  · rw [if_pos hown, ha]
  · rw [if_pos hown, hnone]

/-- The answer to a performed write does not look at the reservations. -/
theorem freeLine_finishWrite (s : State) (l : LineAddr) (q : Request) :
    (s.freeLine l).finishWrite q = (s.finishWrite q).freeLine l := by
  have hwt : (s.freeLine l).isWriteThrough q.region = s.isWriteThrough q.region := rfl
  unfold State.finishWrite
  rw [hwt]
  split <;> rfl

/-- A performed write of one word (R33). -/
theorem afterWrite_word (hk : t.kind ≠ .lineWrite) : h.afterWrite k t = { h with
    data := setAt h.data t.word (mergeLanes t.lanes h.data[t.word] t.wdata)
    sharers := Vector.ofFn fun j => h.sharers[j] && j == k } := by
  rw [Held.afterWrite, written_eq, if_neg hk]

/-- Settles O25: by the reservation, the checks and the write policy. -/
theorem releaseWriteHitWritesAndFrees : Obligations.ReleaseWriteHitWritesAndFrees := by
  unfold Obligations.ReleaseWriteHitWritesAndFrees
  intro s k t r w h hk hr hh
  have hword : t.kind ≠ .lineWrite := by simp [hk]
  obtain ⟨hlate, hheld⟩ := serveReleaseWrite_cases (s.taken k) (requestOf k t r) w h
  have hperformed (hown : s.reserver t.line = some k)
      (hon : ¬(s.isWriteThrough r = true ∧ s.isOffline r = true))
      (hroom : s.roomFor (setAt h.sharers k false) t.line) :
      (s.taken k).serveReleaseWrite (requestOf k t r) w h =
        (((s.taken k).writeLine (requestOf k t r) w h).finishWrite (requestOf k t r)).freeLine t.line := by
    rw [← freeLine_finishWrite]
    exact (hheld hown).2 ((writeRefusal_of_online (s := s.taken k) (q := requestOf k t r) hon).1 hroom)
  rw [exec_releaseWrite_hit hk hr hh]
  refine ⟨fun hno => ?_, fun hown hwt hoff => ?_, fun hown hon hroom => ?_, fun hown hwt hroom => ?_,
    fun hown hwt hoff hroom => ?_⟩
  · rw [hlate hno, taken_respond]
  · rw [(hheld hown).1 _ (writeRefusal_offline hwt hoff), taken_respond]
  · rw [(hheld hown).1 _ ((writeRefusal_of_online (s := s.taken k) (q := requestOf k t r) hon).2 hroom), taken_respond]
  · rw [hperformed hown (by simp [hwt]) hroom, taken_write_back hwt, afterWrite_word hword]
    rfl
  · rw [hperformed hown (by simp [hoff]) hroom, taken_write_through hwt, afterWrite_word hword]
    rfl

/-- Settles O26, by the line's reservation, and by the miss path's answer to the releases. -/
theorem releaseFreesOrIsLate : Obligations.ReleaseFreesOrIsLate := by
  unfold Obligations.ReleaseFreesOrIsLate
  refine ⟨fun s k t r w h hk hr hh => ?_, fun s k t r hk hr hm => ?_⟩
  · have hserved : exec .release s = .next ((s.taken k).serveRelease (requestOf k t r) w) := by
      refine (exec_hit_of_kind hk hr hh).trans ?_
      simp only [State.serveHeld, hk]
    rw [hserved, State.serveRelease]
    refine ⟨fun hown => ?_, fun hno => ?_⟩
    · rw [if_pos (show (s.taken k).reserver t.line = some k from hown), touch_eq, respond_eq]
      rfl
    · rw [if_neg (show (s.taken k).reserver t.line ≠ some k from hno), taken_respond]
  · rw [exec_miss hr hm, ← taken_respond]
    obtain hk | hk := hk <;> simp only [State.miss, hk]

/-- Settles O27: the lookup finds the FILLING way, and its slot takes the transaction. -/
theorem fillingLineIsJoined : Obligations.FillingLineIsJoined := by
  unfold Obligations.FillingLineIsJoined
  intro s k t r r' w tag i f hr hl he hf
  have hlookup : (s.taken k).lookup t.line = some w := hl
  have hentry : (s.taken k).entry (setOf t.line) w = .filling tag r' i := he
  have hslot : (s.taken k).slots[i] = some f := hf
  have hjoined : exec t.kind.command s = .next
      (((s.taken k).setSlot i (some (f.join (requestOf k t r)))).place k (f.joinPlacement (requestOf k t r) i)) := by
    rw [exec_reaches hr]
    simp only [State.directory, hlookup, hentry, State.joinFill, hslot]
  rw [hjoined]
  refine ⟨fun hvacant => ?_, fun hother => ?_⟩
  · rw [Fill.join, Fill.joinPlacement, if_pos hvacant, if_pos hvacant]
    rfl
  · rw [Fill.join, Fill.joinPlacement, if_neg hother, if_neg hother]
    rfl

end ReservationHits

end Sys2Proof.Machine

namespace Sys2Proof.Machine

/-! ### The miss path (R41 to R43) -/

section Misses

variable {s : State} {q : Request} {k : Port} {t : Transaction} {r : RegionId}

theorem miss_eq_missPath (hk : q.txn.kind.isRelease = false) : s.miss q = s.missPath q := by
  unfold State.miss
  cases hq : q.txn.kind <;> simp_all [Kind.isRelease]

theorem draining_eq_false {l : LineAddr} : s.draining l = false ↔ ∀ e ∈ s.drains, e.line ≠ l := by
  simp [State.draining]

theorem draining_eq_true {l : LineAddr} : s.draining l = true ↔ ∃ e ∈ s.drains, e.line = l := by
  simp [State.draining]

/-- Step 7: a drain entry names the line (R41). -/
theorem missPath_draining (hd : s.draining q.txn.line = true) :
    s.missPath q = s.respond q.port (.retry .lineBusy) := by
  rw [State.missPath, if_pos hd]

section Undrained

variable (hd : s.draining q.txn.line = false)
include hd

/-- Step 8: the region is OFFLINE (R154). -/
theorem missPath_offline (hoff : s.isOffline q.region = true) : s.missPath q = s.respond q.port (.fault .offline) := by
  rw [State.missPath, if_neg (by simp [hd]), if_pos hoff]

/-- Step 9: a miss that does not allocate (R42). -/
theorem missPath_bypasses (hon : s.isOffline q.region = false) (hb : s.missBypasses q = true) :
    s.missPath q = s.makePortOp q false := by
  rw [State.missPath, if_neg (by simp [hd]), if_neg (by simp [hon]), if_pos hb]

/-- Step 10: a limit on reservations (R43, R79). -/
theorem missPath_limited {a : Response} (hon : s.isOffline q.region = false) (hb : s.missBypasses q = false)
    (ha : s.limitRefusal q = some a) : s.missPath q = s.respond q.port a := by
  rw [State.missPath, if_neg (by simp [hd]), if_neg (by simp [hon]), if_neg (by simp [hb]), ha]

/-- Steps 11 to 13: a miss that allocates, within the limits (R43). -/
theorem missPath_allocates (hon : s.isOffline q.region = false) (hb : s.missBypasses q = false)
    (hwithin : s.limitRefusal q = none) : s.missPath q = s.missAllocate q := by
  rw [State.missPath, if_neg (by simp [hd]), if_neg (by simp [hon]), if_neg (by simp [hb]), hwithin]

end Undrained

/-- The limits on a RESERVE_READ, the port's own first (R43, R79). -/
theorem limitRefusal_reserve (hk : q.txn.kind = .reserveRead) :
    (2 ≤ s.owned q.port → s.limitRefusal q = some (.fault .resLimit)) ∧
      (s.owned q.port < 2 → s.freeRes = none → s.limitRefusal q = some (.retry .resFull)) := by
  rw [State.limitRefusal, if_pos (by simp [hk])]
  exact ⟨fun hlimit => if_pos hlimit, fun hfew hfull => by rw [if_neg (Nat.not_le.mpr hfew), hfull]; rfl⟩

/-- No limit holds back another kind, nor a RESERVE_READ within both (R43, R79). -/
theorem limitRefusal_none (h : q.txn.kind = .reserveRead → s.owned q.port < 2 ∧ ∃ i : ResId, s.res[i] = none) :
    s.limitRefusal q = none := by
  unfold State.limitRefusal
  split
  · next hk =>
    obtain ⟨hfew, i, hi⟩ := h (by simpa using hk)
    have hfree : s.freeRes ≠ none := fun hfull => freeRes_eq_none.mp hfull i hi
    rw [if_neg (Nat.not_le.mpr hfew), if_neg (by simpa using hfree)]
  · rfl

theorem mem_allSlots (i : SlotId) : i ∈ allSlots := by
  revert i
  decide

theorem freeSlot_eq_none : s.freeSlot = none ↔ ∀ i : SlotId, s.slots[i] ≠ none := by
  simp [-Fin.getElem_fin, State.freeSlot, List.find?_eq_none, mem_allSlots]

/-- The FREE slot of the lowest number is the one allocated (R48). -/
theorem freeSlot_eq_some {i : SlotId} (hi : s.slots[i] = none) (hleast : ∀ j : SlotId, j < i → s.slots[j] ≠ none) :
    s.freeSlot = some i := by
  refine find_ascending (by decide) (mem_allSlots i) (by rw [hi]; rfl) fun j hj => ?_
  rw [← Bool.not_eq_true, Option.isNone_iff_eq_none]
  exact hleast j hj

/-- A granted transaction that misses and is no release runs the miss path. -/
theorem exec_missPath (hk : t.kind.isRelease = false) (hr : s.reaches k t r) (hm : s.lookup t.line = none) :
    exec t.kind.command s = .next ((s.taken k).missPath (requestOf k t r)) := by
  rw [exec_miss hr hm, miss_eq_missPath hk]

/-- A miss that reaches victim choice (R43). -/
theorem exec_missAdmitted (h : s.missAdmitted k t r) :
    exec t.kind.command s = .next ((s.taken k).missAllocate (requestOf k t r)) := by
  obtain ⟨hk, hr, hm, hd, hon, hb, hlimit⟩ := h
  have hnone : (s.taken k).limitRefusal (requestOf k t r) = none := limitRefusal_none hlimit
  rw [exec_missPath hk hr hm,
    missPath_allocates (s := s.taken k) (q := requestOf k t r) (draining_eq_false.mpr hd) hon hb hnone]

/-- A RESERVE_READ that passes the intake checks allocates as it misses (R21, R42). -/
theorem reserve_allocates (hk : t.kind = .reserveRead) (hr : s.reaches k t r) :
    s.missBypasses (requestOf k t r) = false := by
  obtain ⟨-, -, -, -, -, hcacheable⟩ := hr
  have hc := hcacheable (by rw [hk]; rfl)
  simp [-Fin.getElem_fin, State.missBypasses, hc, Transaction.bypasses, hk]

/-- Settles O28, by the order of the steps. -/
theorem missRefusedInOrder : Obligations.MissRefusedInOrder := by
  unfold Obligations.MissRefusedInOrder
  intro s k t r hk hr hm
  have hpath := exec_missPath hk hr hm
  have hlimit {a : Response} (hd : ∀ e ∈ s.drains, e.line ≠ t.line) (hon : s.isOffline r = false)
      (hkind : t.kind = .reserveRead) (ha : (s.taken k).limitRefusal (requestOf k t r) = some a) :
      exec .reserveRead s = .next (s.answering k a) := by
    have hb : (s.taken k).missBypasses (requestOf k t r) = false := reserve_allocates (s := s) hkind hr
    have hpath' : exec .reserveRead s = .next ((s.taken k).missPath (requestOf k t r)) := by
      rw [← hpath, hkind]
      rfl
    rw [hpath', missPath_limited (s := s.taken k) (q := requestOf k t r) (draining_eq_false.mpr hd) hon hb ha,
      ← taken_respond]
  refine ⟨fun hd => ?_, fun hd hoff => ?_, fun hd hon hkind hfull => ?_, fun hd hon hkind hfew hfull => ?_,
    fun hd hon hb hwithin hkind hfull => ?_⟩
  · rw [hpath, missPath_draining (s := s.taken k) (q := requestOf k t r) (draining_eq_true.mpr hd), taken_respond]
  · rw [hpath, missPath_offline (s := s.taken k) (q := requestOf k t r) (draining_eq_false.mpr hd) hoff, taken_respond]
  · exact hlimit hd hon hkind ((limitRefusal_reserve (s := s.taken k) (q := requestOf k t r) hkind).1 hfull)
  · exact hlimit hd hon hkind
      ((limitRefusal_reserve (s := s.taken k) (q := requestOf k t r) hkind).2 hfew (freeRes_eq_none.mpr hfull))
  · have hslots : (s.taken k).freeSlot = none := freeSlot_eq_none.mpr hfull
    rw [exec_missAdmitted ⟨hk, hr, hm, hd, hon, hb, hwithin⟩, State.missAllocate, if_neg (by simp [hkind]), hslots,
      ← taken_respond]

/-- Settles O29: step 9 takes each of the three kinds of miss. -/
theorem missThatDoesNotAllocateMakesPortOperation : Obligations.MissThatDoesNotAllocateMakesPortOperation := by
  unfold Obligations.MissThatDoesNotAllocateMakesPortOperation
  intro s k t r hk hr hm hd hon hkinds
  have hrelease : t.kind.isRelease = false := by
    cases hκ : t.kind <;> simp_all [Kind.isReservation, Kind.isRelease]
  have hb : (s.taken k).missBypasses (requestOf k t r) = true := by
    show s.missBypasses (requestOf k t r) = true
    simp only [State.missBypasses, Bool.or_eq_true, Bool.not_eq_true', Bool.and_eq_true, beq_iff_eq]
    obtain hc | ⟨hno, hkind⟩ | hwt := hkinds
    · exact .inl (.inl hc)
    · refine .inl (.inr ?_)
      cases hκ : t.kind <;> simp_all [Kind.isReservation, Transaction.bypasses]
    · exact .inr hwt
  rw [exec_missPath hrelease hr hm,
    missPath_bypasses (s := s.taken k) (q := requestOf k t r) (draining_eq_false.mpr hd) hon hb]
  rfl

end Misses

/-! ### Victim choice (R44, R45, R91) -/

section Victims

variable {s : State} {si : SetIdx} {w : WayIdx} {h : Held}

/-- A way may be taken when it is CLEAN or DIRTY, not reserved, and not DIRTY in an OFFLINE region (R44, R91). -/
theorem mayBeVictim_iff : s.mayBeVictim si w = true ↔ ∃ h, (s.entry si w).held? = some h ∧
    (∀ i : ResId, reserves (lineAt h.tag si) s.res[i] = false) ∧
    ¬((s.entry si w).isDirty = true ∧ s.regions[h.region].health = .offline) := by
  unfold State.mayBeVictim
  cases he : s.entry si w <;>
    simp [-Fin.getElem_fin, Entry.held?, Entry.isDirty, resOf_eq_none, State.isOffline]

/-- What is found from the back of a list stands behind no other that would do. -/
theorem find_reverse {α : Type} {l : List α} {p : α → Bool} {a : α} (hf : l.reverse.find? p = some a) :
    p a = true ∧ ∃ front back, l = front ++ a :: back ∧ ∀ b ∈ back, ¬p b = true := by
  obtain ⟨ha, before, after, hl, hbefore⟩ := List.find?_eq_some_iff_append.mp hf
  refine ⟨ha, after.reverse, before.reverse, ?_, fun b hb => by simpa using hbefore b (List.mem_reverse.mp hb)⟩
  have := congrArg List.reverse hl
  simpa using this

/-- Settles O31: the two readings of the recency list from its back. -/
theorem victimIsNearestBackOfRecencyList : Obligations.VictimIsNearestBackOfRecencyList := by
  unfold Obligations.VictimIsNearestBackOfRecencyList
  intro s si free takable
  have hfree (w : WayIdx) : (s.entry si w == .invalid) = true ↔ free w := beq_iff_eq
  have htakable (w : WayIdx) : s.mayBeVictim si w = true ↔ takable w := mayBeVictim_iff
  cases hf : s.dir[si].recency.reverse.find? fun w => s.entry si w == .invalid with
  | some v =>
    have hv : s.victim si = some v := by simp only [State.victim, hf]
    obtain ⟨hvfree, front, back, hl, hback⟩ := find_reverse hf
    rw [hv]
    refine ⟨iff_of_false nofun fun hnone => (hnone v ?_).1 ((hfree v).mp hvfree), fun w hw => ?_⟩
    · rw [hl]
      exact List.mem_append_right _ List.mem_cons_self
    · obtain rfl := Option.some.inj hw
      exact ⟨front, back, hl, .inl ⟨(hfree v).mp hvfree, fun b hb => (hfree b).not.mp (hback b hb)⟩⟩
  | none =>
    have hnofree : ∀ w ∈ s.dir[si].recency, ¬free w := fun w hw =>
      (hfree w).not.mp (List.find?_eq_none.mp hf w (List.mem_reverse.mpr hw))
    have hv : s.victim si = s.dir[si].recency.reverse.find? fun w => s.mayBeVictim si w := by
      simp only [State.victim, hf]
    rw [hv]
    refine ⟨?_, fun w hw => ?_⟩
    · rw [List.find?_eq_none]
      simp only [List.mem_reverse, htakable]
      exact forall₂_congr fun w hw => ⟨fun ht => ⟨hnofree w hw, ht⟩, fun hn => hn.2⟩
    · obtain ⟨hwtakable, front, back, hl, hback⟩ := find_reverse hw
      exact ⟨front, back, hl,
        .inr ⟨hnofree, (htakable w).mp hwtakable, fun b hb => (htakable b).not.mp (hback b hb)⟩⟩

/-- A way that holds no line passes the checks (R45). -/
theorem victimRefusal_empty (he : (s.entry si w).held? = none) : s.victimRefusal si w = none := by
  simp only [State.victimRefusal, he]

/-- The checks on a held victim, in their order (R45). -/
theorem victimRefusal_held (held : (s.entry si w).held? = some h) :
    ((s.entry si w).isDirty = true → 2 ≤ s.drains.length → s.victimRefusal si w = some .drainFull) ∧
      (¬((s.entry si w).isDirty = true ∧ 2 ≤ s.drains.length) →
        (¬s.roomFor h.sharers (lineAt h.tag si) → s.victimRefusal si w = some .noticeFull) ∧
        (s.roomFor h.sharers (lineAt h.tag si) → s.victimRefusal si w = none)) := by
  have hfull : ((s.entry si w).isDirty && !s.drainRoom) = true ↔
      (s.entry si w).isDirty = true ∧ 2 ≤ s.drains.length := by
    simp [State.drainRoom, Nat.succ_le_iff]
  simp only [State.victimRefusal, held]
  refine ⟨fun hdirty hlen => if_pos (hfull.mpr ⟨hdirty, hlen⟩), fun hno => ?_⟩
  rw [if_neg (hfull.not.mpr hno)]
  exact ⟨fun hroom => if_pos (lacking_any.mpr hroom), fun hroom => if_neg fun hl => lacking_any.mp hl hroom⟩

variable {q : Request}

theorem chooseVictim_none {alloc : WayIdx → State} (hv : s.victim (setOf q.txn.line) = none) :
    s.chooseVictim q alloc = s.respond q.port (.retry .setBusy) := by
  simp only [State.chooseVictim, hv]

theorem chooseVictim_refused {alloc : WayIdx → State} {c : RetryCause} (hv : s.victim (setOf q.txn.line) = some w)
    (hr : s.victimRefusal (setOf q.txn.line) w = some c) : s.chooseVictim q alloc = s.respond q.port (.retry c) := by
  simp only [State.chooseVictim, hv, hr]

theorem chooseVictim_chosen {alloc : WayIdx → State} (hv : s.victim (setOf q.txn.line) = some w)
    (hr : s.victimRefusal (setOf q.txn.line) w = none) : s.chooseVictim q alloc = alloc w := by
  simp only [State.chooseVictim, hv, hr]

/-- A miss that step 11 lets pass chooses a victim (R43, R44). -/
theorem missAllocate_chooses (hslot : q.txn.kind = .lineWrite ∨ ∃ i : SlotId, s.slots[i] = none) :
    ∃ alloc : WayIdx → State, s.missAllocate q = s.chooseVictim q alloc := by
  unfold State.missAllocate
  split
  · exact ⟨_, rfl⟩
  · next hk =>
    obtain hk' | ⟨i, hi⟩ := hslot
    · exact absurd hk' (by simpa using hk)
    · cases hfree : s.freeSlot with
      | none => exact absurd hi (freeSlot_eq_none.mp hfree i)
      | some j => exact ⟨_, rfl⟩

/-- Settles O32, by the order of the checks on the victim. -/
theorem victimRefusedInOrder : Obligations.VictimRefusedInOrder := by
  unfold Obligations.VictimRefusedInOrder
  intro s k t r hadmitted hslot
  obtain ⟨alloc, halloc⟩ := missAllocate_chooses (s := s.taken k) (q := requestOf k t r) hslot
  have hexec := exec_missAdmitted hadmitted
  rw [halloc] at hexec
  have hrefused {w : WayIdx} {c : RetryCause} (hv : s.victim (setOf t.line) = some w)
      (hc : s.victimRefusal (setOf t.line) w = some c) :
      exec t.kind.command s = .next (s.answering k (.retry c)) := by
    rw [hexec, chooseVictim_refused (s := s.taken k) (q := requestOf k t r) hv hc, taken_respond]
  refine ⟨fun hv => ?_, fun w h hv held => ⟨fun hdirty hfull => ?_, fun hno hroom => ?_⟩⟩
  · rw [hexec, chooseVictim_none (s := s.taken k) (q := requestOf k t r) hv, taken_respond]
  · exact hrefused hv ((victimRefusal_held held).1 hdirty hfull)
  · exact hrefused hv (((victimRefusal_held held).2 hno).1 hroom)

end Victims

/-! ### Allocation (R46 to R48) -/

section Allocation

variable {s : State} {k : Port} {t : Transaction} {r : RegionId} {w : WayIdx}

section Evictions

variable {si : SetIdx} {h : Held}

theorem evict_invalid (he : s.entry si w = .invalid) : s.evict si w = s := by
  simp only [State.evict, he]

/-- The sharers of a CLEAN victim are sent a REVOKE (R46). -/
theorem evict_clean (he : s.entry si w = .clean h) :
    s.evict si w = { s with notices := s.notified .revoke (lineAt h.tag si) h.sharers } := by
  simp only [State.evict, he]
  rfl

/-- A DIRTY victim's line goes to the drain buffer too (R46, R68). -/
theorem evict_dirty (he : s.entry si w = .dirty h) :
    s.evict si w = { s with
      drains := s.drains ++ [s.newDrain .evict (lineAt h.tag si) h]
      dev := s.dev.join s.regions (s.newDrain .evict (lineAt h.tag si) h).op
      notices := s.notified .revoke (lineAt h.tag si) h.sharers } := by
  simp only [State.evict, he]
  rfl

end Evictions

/-- An allocation in terms of what the eviction leaves (R46, R174). -/
theorem allocate_eq {si : SetIdx} {drains : List DrainEntry} {dev : DevicePort} {notices : Vector NoticeQueue 4}
    (he : s.evict si w = { s with drains := drains, dev := dev, notices := notices }) (e : Entry) :
    s.allocate si w e = { s with
      drains := drains
      dev := dev
      notices := notices
      sweep := s.sweep.wayChanged si w
      dir := s.withFront si w e } := by
  rw [State.allocate, he, setEntry_touch]
  rfl

/-- Settles O33: the victim passes the checks of step 12, is evicted, and its way takes the line. -/
theorem missAllocatesVictimWay : Obligations.MissAllocatesVictimWay := by
  unfold Obligations.MissAllocatesVictimWay
  intro s k t r w hadmitted hv drains dev notices hvictim
  have hentry : (s.taken k).entry (setOf t.line) w = s.entry (setOf t.line) w := rfl
  obtain ⟨hpass, hevict⟩ : (s.taken k).victimRefusal (setOf t.line) w = none ∧
      (s.taken k).evict (setOf t.line) w =
        { s.taken k with drains := drains, dev := dev, notices := notices } := by
    obtain ⟨he, rfl, rfl, rfl⟩ | ⟨h, he, hroom, rfl, rfl, rfl⟩ | ⟨h, p, he, hroom, hdrains, rfl, rfl, rfl, rfl⟩ :=
      hvictim
    · exact ⟨victimRefusal_empty (by rw [hentry, he]; rfl), evict_invalid he⟩
    · have hheld : ((s.taken k).entry (setOf t.line) w).held? = some h := by rw [hentry, he]; rfl
      exact ⟨((victimRefusal_held hheld).2 (by rw [hentry, he]; nofun)).2 hroom, evict_clean he⟩
    · have hheld : ((s.taken k).entry (setOf t.line) w).held? = some h := by rw [hentry, he]; rfl
      exact ⟨((victimRefusal_held hheld).2 fun hfull => Nat.not_le.mpr hdrains hfull.2).2 hroom, evict_dirty he⟩
  have hchosen (alloc : WayIdx → State) : (s.taken k).chooseVictim (requestOf k t r) alloc = alloc w :=
    chooseVictim_chosen (s := s.taken k) (q := requestOf k t r) hv hpass
  have hexec := exec_missAdmitted hadmitted
  refine ⟨fun hk => ?_, fun i hk hi hleast => ?_⟩
  · rw [hk] at hexec
    refine hexec.trans ?_
    rw [State.missAllocate, if_pos (by simp [hk]), hchosen, State.installWrite, allocate_eq hevict, respond_eq]
    rfl
  · have hslot : (s.taken k).freeSlot = some i := freeSlot_eq_some hi hleast
    rw [hexec, State.missAllocate, if_neg (by simp [hk]), hslot]
    simp only [hchosen, State.startFill]
    rw [allocate_eq hevict]
    rfl

end Allocation

end Sys2Proof.Machine

namespace Sys2Proof.Machine

/-! ### The reset state -/

theorem reset_withinCapacity : State.reset.withinCapacity :=
  ⟨Nat.zero_le _, Nat.zero_le _, Nat.zero_le _, nofun, nofun⟩

theorem reset_reservationsSound : State.reset.reservationsSound := by
  have hfree (i : ResId) : State.reset.res[i] = none := Vector.getElem_replicate _
  refine ⟨fun i j l hi => ?_, by decide⟩
  rw [hfree i] at hi
  cases hi

/-- The reset state is its own power-on state with every reset line as it is. -/
theorem reset_atPowerOn : State.reset.atPowerOn false = State.reset := by
  have hports : (State.reset.atPowerOn false).ports = State.reset.ports :=
    Vector.ext fun k hk => atPowerOn_port State.reset false ⟨k, hk⟩
  exact congrArg (fun p => { State.reset with ports := p }) hports

/-- Settles O3: every buffer and table is empty, and the rest are the power-on values. -/
theorem resetStateIsSound : Obligations.ResetStateIsSound := by
  unfold Obligations.ResetStateIsSound
  exact ⟨recencyOrdered_of_reset rfl, reset_withinCapacity, coherent_of_reset rfl rfl, reset_reservationsSound,
    reset_atPowerOn ▸ atPowerOn_parametersSound State.reset false, linesSound_iff.mpr (linesAgree_of_reset rfl rfl rfl),
    reset_atPowerOn ▸ atPowerOn_queueSound State.reset false⟩

end Sys2Proof.Machine

/-! ## The drain buffer, the foreign notice FIFO and the event queue

Each of the three is changed by few operations: an entry joins only with room, and the others take entries away or
change them in place. The bounds are carried through a happening from operation to operation, and an operation that
leaves the three as they are (`State.SameBuffers`) leaves the bounds. -/

namespace Sys2Proof.Machine

/-- The drain buffer, the foreign notice FIFO and the event queue. -/
def State.buffers (s : State) : List DrainEntry × ForeignFifo × EventQueue := (s.drains, s.fifo, s.events)

/-- The three are in `u` as they are in `s`. -/
def State.SameBuffers (s u : State) : Prop := u.buffers = s.buffers

/-- A FIFO of at most 8 entries, whose DEFERRED head is a head (R116). -/
def ForeignFifo.bounded (f : ForeignFifo) : Prop := f.lines.length ≤ 8 ∧ (f.deferred.isSome = true → f.lines ≠ [])

/-- A queue of at most 16 records, not empty with the overflow flag set (R190, R192). -/
def EventQueue.bounded (q : EventQueue) : Prop := q.records.length ≤ 16 ∧ (q.overflow = true → q.records ≠ [])

theorem withinCapacity_iff {s : State} :
    s.withinCapacity ↔ s.drains.length ≤ 2 ∧ s.fifo.bounded ∧ s.events.bounded := by
  unfold State.withinCapacity ForeignFifo.bounded EventQueue.bounded
  tauto

/-! ### The operations that change the three -/

/-- A record is stored with room, and lost with the overflow flag set without (R190). -/
theorem EventQueue.bounded.push {q : EventQueue} (h : q.bounded) (e : Event) : (q.push e).bounded := by
  unfold EventQueue.push
  split
  · next hroom => exact ⟨by simpa using hroom, fun _ => List.concat_ne_nil e q.records⟩
  · next hfull => exact ⟨h.1, fun _ hempty => hfull (by rw [show q.records = [] from hempty]; decide)⟩

/-- The overflow flag goes with the last record (R192). -/
theorem EventQueue.bounded.pop {q : EventQueue} (h : q.bounded) : q.pop.bounded := by
  unfold EventQueue.pop
  split
  · exact h
  · exact ⟨Nat.zero_le _, nofun⟩
  · next _ e es hq =>
    obtain ⟨hlength, -⟩ := h
    rw [hq] at hlength
    exact ⟨(Nat.le_succ _).trans hlength, fun _ => List.cons_ne_nil e es⟩

/-- A DEFERRED head that may go on is PENDING (R125). -/
theorem ForeignFifo.bounded.roomGained {f : ForeignFifo} (h : f.bounded) (k : Port) : (f.roomGained k).bounded := by
  unfold ForeignFifo.roomGained
  split
  · exact h
  · split
    · exact ⟨h.1, nofun⟩
    · exact h

section Buffers

variable {s u : State}

theorem State.SameBuffers.trans {v : State} (h : s.SameBuffers u) (g : u.SameBuffers v) : s.SameBuffers v :=
  Eq.trans g h

variable (h : s.withinCapacity)
include h

theorem State.withinCapacity.same (f : s.SameBuffers u) : u.withinCapacity := by
  obtain ⟨hdrains, hfifo, hevents⟩ : u.drains = s.drains ∧ u.fifo = s.fifo ∧ u.events = s.events := by
    simpa [State.SameBuffers, State.buffers] using f
  unfold State.withinCapacity
  rw [hdrains, hfifo, hevents]
  exact h

theorem State.withinCapacity.withEvents {q : EventQueue} (hq : s.events.bounded → q.bounded) :
    ({ s with events := q } : State).withinCapacity := by
  obtain ⟨hdrains, hfifo, hevents⟩ := withinCapacity_iff.mp h
  exact withinCapacity_iff.mpr ⟨hdrains, hfifo, hq hevents⟩

theorem State.withinCapacity.withFifo {f : ForeignFifo} (hf : s.fifo.bounded → f.bounded) :
    ({ s with fifo := f } : State).withinCapacity := by
  obtain ⟨hdrains, hfifo, hevents⟩ := withinCapacity_iff.mp h
  exact withinCapacity_iff.mpr ⟨hdrains, hf hfifo, hevents⟩

theorem State.withinCapacity.withDrains {drains : List DrainEntry} (hd : drains.length ≤ s.drains.length) :
    ({ s with drains := drains } : State).withinCapacity := by
  obtain ⟨hdrains, hrest⟩ := withinCapacity_iff.mp h
  exact withinCapacity_iff.mpr ⟨hd.trans hdrains, hrest⟩

theorem State.withinCapacity.record (e : Event) : (s.record e).withinCapacity := h.withEvents fun hq => hq.push e

/-- A drain entry is made with room in the buffer (R70). -/
theorem State.withinCapacity.addDrain (room : s.drains.length < 2) (kind : DrainKind) (l : LineAddr) (x : Held) :
    (s.addDrain kind l x).withinCapacity := by
  obtain ⟨-, hrest⟩ := withinCapacity_iff.mp h
  exact withinCapacity_iff.mpr ⟨by simpa using room, hrest⟩

theorem State.withinCapacity.dropDrain (p : DrainPlace) : (s.dropDrain p).withinCapacity :=
  (h.withDrains (List.length_filter_le _ _)).same rfl

theorem State.withinCapacity.holdDrain (p : DrainPlace) : (s.holdDrain p).withinCapacity :=
  h.withDrains (List.length_map _).le

/-- The head of the FIFO leaves it (R117). -/
theorem State.withinCapacity.popForeign : s.popForeign.withinCapacity :=
  h.withFifo fun hf => ⟨(List.length_tail ▸ Nat.sub_le _ _).trans hf.1, nofun⟩

/-- Port `k`'s notice queue is emptied, which may let a DEFERRED head go on (R125). -/
theorem State.withinCapacity.emptyNotices (k : Port) : (s.emptyNotices k).withinCapacity := by
  refine (h.withFifo (f := (s.emptyNotices k).fifo) fun hf => ?_).same rfl
  show (if s.notices[k].queue.isEmpty then s.fifo else s.fifo.roomGained k).bounded
  split
  · exact hf
  · exact hf.roomGained k

end Buffers

/-! ### Hit service and the ends of operations (R30, R143) -/

section Device

variable {s u : State}

theorem finishWrite_sameBuffers (s : State) (q : Request) : s.SameBuffers (s.finishWrite q) := by
  unfold State.finishWrite
  split <;> rfl

theorem writeLine_sameBuffers (s : State) (q : Request) (w : WayIdx) (x : Held) : s.SameBuffers (s.writeLine q w x) :=
  rfl

theorem serveWrite_sameBuffers (s : State) (q : Request) (w : WayIdx) (x : Held) :
    s.SameBuffers (s.serveWrite q w x) := by
  unfold State.serveWrite
  split
  · rfl
  · split
    · rfl
    · exact (writeLine_sameBuffers s q w x).trans (finishWrite_sameBuffers _ q)

theorem serveReserve_sameBuffers (s : State) (q : Request) (w : WayIdx) (x : Held) :
    s.SameBuffers (s.serveReserve q w x) := by
  unfold State.serveReserve
  split
  · rfl
  · split
    · rfl
    · split
      · rfl
      · split <;> rfl

theorem serveReleaseWrite_sameBuffers (s : State) (q : Request) (w : WayIdx) (x : Held) :
    s.SameBuffers (s.serveReleaseWrite q w x) := by
  unfold State.serveReleaseWrite
  split
  · split
    · rfl
    · exact (writeLine_sameBuffers s q w x).trans (finishWrite_sameBuffers ((s.writeLine q w x).freeLine _) q)
  · rfl

theorem serveRelease_sameBuffers (s : State) (q : Request) (w : WayIdx) : s.SameBuffers (s.serveRelease q w) := by
  unfold State.serveRelease
  split <;> rfl

/-- Hit service has no part in the three buffers. -/
theorem serve_sameBuffers (s : State) (q : Request) (w : WayIdx) : s.SameBuffers (s.serve q w) := by
  unfold State.serve
  split
  · rfl
  · unfold State.serveHeld
    split
    · rfl
    · exact serveWrite_sameBuffers s q w _
    · rfl
    · exact serveWrite_sameBuffers s q w _
    · exact serveReserve_sameBuffers s q w _
    · exact serveReleaseWrite_sameBuffers s q w _
    · exact serveRelease_sameBuffers s q w

theorem setPort_sameBuffers (s : State) (k : Port) (p : MasterPort) : s.SameBuffers (s.setPort k p) := rfl

theorem dropSharer_sameBuffers (s : State) (k : Port) : s.SameBuffers (s.dropSharer k) := by
  simp [State.SameBuffers, State.buffers]

theorem kick_sameBuffers (s : State) : s.SameBuffers s.kick := rfl

theorem startProbeTimer_sameBuffers (s : State) (r : RegionId) : s.SameBuffers (s.startProbeTimer r) := rfl

theorem respond_sameBuffers (s : State) (k : Port) (r : Response) : s.SameBuffers (s.respond k r) := rfl

theorem answerAll_sameBuffers (s : State) (qs : List Request) (answer : Request → Response) :
    s.SameBuffers (s.answerAll qs answer) :=
  List.foldlRecOn qs _ rfl fun _ hu _ _ => hu.trans rfl

theorem serveAll_sameBuffers (s : State) (w : WayIdx) (qs : List Request) : s.SameBuffers (s.serveAll w qs) :=
  List.foldlRecOn qs _ rfl fun u hu q _ => State.SameBuffers.trans hu (serve_sameBuffers u q w)

/-- A fill that completes (R58). -/
theorem completeFill_sameBuffers (s : State) (i : SlotId) : s.SameBuffers (s.completeFill i) := by
  unfold State.completeFill
  split
  · rfl
  · next f _ =>
    split
    · exact answerAll_sameBuffers s f.served _
    · exact serveAll_sameBuffers (s.setEntry (setOf f.line) f.way (.clean f.installed)) f.way f.served

/-- A fill that fails (R65). -/
theorem failFill_sameBuffers (s : State) (i : SlotId) (c : FaultCause) : s.SameBuffers (s.failFill i c) := by
  unfold State.failFill
  split
  · rfl
  · next f _ => exact answerAll_sameBuffers s f.served _

theorem answerOwner_sameBuffers (s : State) (op : Operation) (r : Response) : s.SameBuffers (s.answerOwner op r) := by
  unfold State.answerOwner
  split <;> rfl

theorem receive_sameBuffers (s : State) (op : Operation) (w : Word) : s.SameBuffers (s.receive op w) := by
  unfold State.receive
  split <;> rfl

variable (h : s.withinCapacity)
include h

theorem State.withinCapacity.recordLost (op : Operation) (how : LostHow) : (s.recordLost op how).withinCapacity := by
  unfold State.recordLost
  split
  · exact h.record _
  all_goals exact h

theorem State.withinCapacity.failPortOp (op : Operation) (c : FaultCause) (how : LostHow) :
    (s.failPortOp op c how).withinCapacity :=
  (h.same (answerOwner_sameBuffers s op _)).recordLost op how

theorem State.withinCapacity.releasePlace (k : Port) : (s.releasePlace k).withinCapacity := h.same rfl

theorem State.withinCapacity.handOn (op : Operation) : (s.handOn op).withinCapacity := by
  unfold State.handOn
  split
  · exact h.same (failFill_sameBuffers s _ _)
  · exact h.holdDrain _
  · exact (h.failPortOp op _ _).releasePlace _
  · exact (h.failPortOp op _ _).releasePlace _
  · exact h

theorem State.withinCapacity.handOnAll (queued parked : List Operation) :
    (s.handOnAll queued parked).withinCapacity :=
  List.foldlRecOn parked _ (List.foldlRecOn queued _ h fun _ hu op _ => hu.handOn op) fun _ hu op _ =>
    hu.failPortOp op _ _

/-- Region `r` departs, with its losses recorded and its drains HELD (R153, R163). -/
theorem State.withinCapacity.goOffline (r : RegionId) {first : State → State} (e : Event)
    (hf : ∀ u : State, u.withinCapacity → (first u).withinCapacity) : (s.goOffline r first e).withinCapacity := by
  have hfirst := hf (s.stripRegion r) (h.same rfl)
  have hmarked : ((first (s.stripRegion r)).markOffline r).withinCapacity := hfirst.same rfl
  exact (((hmarked.handOnAll _ _).record e).same (startProbeTimer_sameBuffers _ r)).same (kick_sameBuffers _)

/-- The HELD drains of region `r` become QUEUED again (R75). -/
theorem State.withinCapacity.requeueDrains (r : RegionId) : (s.requeueDrains r).withinCapacity :=
  List.foldlRecOn (s.heldDrains r) _ (h.withDrains (List.length_map _).le) fun _ hu _ _ => hu.same rfl

/-- Region `r` returns (R159, R162). -/
theorem State.withinCapacity.comeOnline (r : RegionId) (e : Event) : (s.comeOnline r e).withinCapacity := by
  have hmarked : (s.markOnline r).withinCapacity := h.same rfl
  exact ((hmarked.requeueDrains r).record e).same (kick_sameBuffers _)

theorem State.withinCapacity.handSuccess (op : Operation) (kept : List Word) :
    (s.handSuccess op kept).withinCapacity := by
  unfold State.handSuccess
  split
  · exact h.same (completeFill_sameBuffers s _)
  · exact h.dropDrain _
  · exact (h.same (answerOwner_sameBuffers s op _)).releasePlace _
  · exact (h.same (answerOwner_sameBuffers s op _)).releasePlace _
  · exact h.comeOnline _ _

theorem State.withinCapacity.ackWord (op : Operation) (rest : List Transfer) (w : Word) (kept : List Word) :
    (s.ackWord op rest w kept).withinCapacity := by
  have hreceived := h.same (receive_sameBuffers s op w)
  unfold State.ackWord
  split
  · have hpopped : (s.receive op w).popHead.withinCapacity := hreceived.same rfl
    exact (hpopped.handSuccess op _).same rfl
  · exact hreceived.same rfl

/-- An ACK (R140). -/
theorem State.withinCapacity.acked (data : Word) : (s.acked data).withinCapacity := by
  unfold State.acked
  split
  · exact h
  · exact h.same rfl
  · next now _ _ _ _ _ _ _ _ =>
    have hcount : (s.setCount now.region 0).withinCapacity := h.same rfl
    unfold State.ackHead
    split
    · exact hcount.ackWord _ _ _ _
    · split
      · exact hcount.ackWord _ _ _ _
      · exact hcount.same rfl
  · exact h

theorem State.withinCapacity.loseDrain (p : DrainPlace) : (s.loseDrain p).withinCapacity := by
  unfold State.loseDrain
  split
  · exact h
  · exact (h.record _).dropDrain p

theorem State.withinCapacity.handError (op : Operation) : (s.handError op).withinCapacity := by
  unfold State.handError
  split
  · exact h.same (failFill_sameBuffers s _ _)
  · exact h.loseDrain _
  · exact (h.failPortOp op _ _).releasePlace _
  · exact (h.failPortOp op _ _).releasePlace _
  · exact h.same rfl

/-- An ERR (R141). -/
theorem State.withinCapacity.errored : s.errored.withinCapacity := by
  unfold State.errored
  split
  · exact h
  · exact h.same rfl
  · next now _ _ _ _ op _ _ _ =>
    have hpopped : (s.setCount now.region 0).popHead.withinCapacity := h.same rfl
    exact (hpopped.handError op).same rfl
  · exact h

theorem State.withinCapacity.handTimeout (op : Operation) (crossed : Bool) :
    (s.handTimeout op crossed).withinCapacity := by
  unfold State.handTimeout
  split
  · exact h.same (failFill_sameBuffers s _ _)
  · unfold State.drainTimedOut
    split
    · exact h.dropDrain _
    · split
      · exact h.holdDrain _
      · exact h.same rfl
  · exact (h.failPortOp op _ _).releasePlace _
  · exact (h.failPortOp op _ _).releasePlace _
  · exact h.same rfl

/-- A ready timeout (R142, R153). -/
theorem State.withinCapacity.timedOut : s.timedOut.withinCapacity := by
  unfold State.timedOut
  split
  · exact h
  · exact h.same rfl
  · next now _ _ _ _ op _ _ _ =>
    have hpopped : (s.setCount now.region s.regions[now.region].countUp).popHead.withinCapacity := h.same rfl
    unfold State.timeoutHead
    split
    · exact hpopped.goOffline _ _ fun _ hu => hu.handTimeout op true
    · exact (hpopped.handTimeout op false).same rfl
  · exact h

end Device

/-! ### Detach, resets and modes (R22, R24, R107, R195) -/

section Ports

variable {s : State} (h : s.withinCapacity)
include h

theorem State.withinCapacity.elapse (d : Nat) : (s.elapse d).withinCapacity := h.same rfl

theorem State.withinCapacity.detach (k : Port) : (s.detach k).withinCapacity := by
  have hdropped := h.same (dropSharer_sameBuffers s k)
  exact (hdropped.emptyNotices k).same (setPort_sameBuffers _ _ _)

theorem State.withinCapacity.writeMode (j : Port) (coherent : Bool) : (s.writeMode j coherent).withinCapacity := by
  unfold State.writeMode
  split
  · exact h.same rfl
  · exact h
  · exact h
  · exact (h.detach j).same (setPort_sameBuffers _ _ _)
  · exact h.same rfl

theorem State.withinCapacity.abandonFlight (k : Port) : (s.abandonFlight k).withinCapacity := by
  unfold State.abandonFlight
  split
  · exact h
  · exact h
  · exact h.same rfl
  · exact h.same rfl
  · unfold State.recordAbandoned
    split
    · exact h.same rfl
    · exact (h.recordLost _ _).same rfl

theorem State.withinCapacity.portReset (k : Port) : (s.portReset k).withinCapacity := by
  have hfreed : (({ s.abandonFlight k with latches := setAt s.latches k 0 } : State).freeOwned k).withinCapacity :=
    (h.abandonFlight k).same rfl
  have hemptied := hfreed.emptyNotices k
  exact (hemptied.same (dropSharer_sameBuffers _ k)).same (setPort_sameBuffers _ _ _)

omit h in
/-- A soft reset leaves its own record alone (R24, R182). -/
theorem softReset_withinCapacity (s : State) (k : Port) : (s.softReset k).withinCapacity :=
  ⟨Nat.zero_le _, Nat.zero_le _, show 1 ≤ 16 by decide, nofun, nofun⟩

omit h in
theorem atPowerOn_withinCapacity (s : State) (pin : Bool) : (s.atPowerOn pin).withinCapacity :=
  reset_withinCapacity.same rfl

/-! ### The control window (R179 to R193) -/

theorem State.withinCapacity.writePortCfg (j k : Port) (v : Word) : (s.writePortCfg j k v).withinCapacity := by
  unfold State.writePortCfg
  split
  · exact h.same rfl
  · exact ((h.writeMode j _).same (setPort_sameBuffers _ _ _)).same (respond_sameBuffers _ k _)

theorem State.withinCapacity.attachPort (k : Port) (v : Word) : (s.attachPort k v).withinCapacity := by
  unfold State.attachPort
  split <;> exact h.same rfl

theorem State.withinCapacity.detachPort (k : Port) (v : Word) : (s.detachPort k v).withinCapacity := by
  unfold State.detachPort
  split
  · exact h.same rfl
  · exact (h.detach _).same (respond_sameBuffers _ k _)
  · exact h.same rfl

theorem State.withinCapacity.writeHubState (k : Port) (v : Word) : (s.writeHubState k v).withinCapacity := by
  unfold State.writeHubState
  split
  · exact h.same rfl
  · split
    · exact softReset_withinCapacity s k
    · exact h.same rfl

theorem State.withinCapacity.writePortCmd (k : Port) (v : Word) : (s.writePortCmd k v).withinCapacity := by
  unfold State.writePortCmd
  split
  · exact h.attachPort k v
  · split
    · exact h.detachPort k v
    · exact h.same rfl

theorem State.withinCapacity.writeResTime (k : Port) (v : Word) : (s.writeResTime k v).withinCapacity := by
  unfold State.writeResTime
  split <;> exact h.same rfl

theorem State.withinCapacity.writeNoticeTime (k : Port) (v : Word) : (s.writeNoticeTime k v).withinCapacity := by
  unfold State.writeNoticeTime
  split <;> exact h.same rfl

theorem State.withinCapacity.writeUrgency (k : Port) (v : Word) : (s.writeUrgency k v).withinCapacity := by
  unfold State.writeUrgency
  split <;> exact h.same rfl

theorem State.withinCapacity.writeParameter (k : Port) (g : Reg) (v : Word) :
    (s.writeParameter k g v).withinCapacity := by
  cases g with
  | resTime => exact h.writeResTime k v
  | noticeTime => exact h.writeNoticeTime k v
  | urgency => exact h.writeUrgency k v
  | _ => exact h.same rfl

theorem State.withinCapacity.writeRegion (n : RegionId) (w : Fin 4) (k : Port) (v : Word) :
    (s.writeRegion n w k v).withinCapacity := by
  unfold State.writeRegion
  split
  · exact h.same rfl
  · split <;> exact h.same rfl

theorem State.withinCapacity.enableRegion (k : Port) (v : Word) : (s.enableRegion k v).withinCapacity := by
  unfold State.enableRegion
  split_ifs <;> exact h.same rfl

theorem State.withinCapacity.disableRegion (k : Port) (v : Word) : (s.disableRegion k v).withinCapacity := by
  unfold State.disableRegion
  split_ifs <;> exact h.same rfl

theorem State.withinCapacity.forceProbe (k : Port) (v : Word) : (s.forceProbe k v).withinCapacity := by
  unfold State.forceProbe
  split
  · exact h.same rfl
  · exact h.same rfl
  · split <;> exact h.same rfl

theorem State.withinCapacity.forceOnline (k : Port) (v : Word) : (s.forceOnline k v).withinCapacity := by
  unfold State.forceOnline
  split
  · exact h.same rfl
  · exact h.same rfl
  · have hdropped : (s.dropProbe (regionCmdRegion v)).withinCapacity := h.same rfl
    exact (hdropped.comeOnline _ _).same (respond_sameBuffers _ k _)

theorem State.withinCapacity.forceOffline (k : Port) (v : Word) : (s.forceOffline k v).withinCapacity := by
  unfold State.forceOffline
  split
  · exact h.same rfl
  · exact h.same rfl
  · exact (h.goOffline _ _ fun _ hu => hu).same (respond_sameBuffers _ k _)

theorem State.withinCapacity.writeRegionCmd (k : Port) (v : Word) : (s.writeRegionCmd k v).withinCapacity := by
  unfold State.writeRegionCmd
  split_ifs
  · exact h.enableRegion k v
  · exact h.disableRegion k v
  · exact h.forceProbe k v
  · exact h.forceOnline k v
  · exact h.forceOffline k v
  · exact h.same rfl

theorem State.withinCapacity.startSweep (c : SweepCommand) (k : Port) (v : Word) :
    (s.startSweep c k v).withinCapacity := by
  unfold State.startSweep
  split_ifs <;> exact h.same rfl

theorem State.withinCapacity.endSweep (aborted : Bool) : (s.endSweep aborted).withinCapacity := by
  have hidle : ({ s with sweep := { s.sweep with state := .idle, aborted := aborted } } : State).withinCapacity :=
    h.same rfl
  exact hidle.record _

theorem State.withinCapacity.abortSweep (k : Port) : (s.abortSweep k).withinCapacity := by
  unfold State.abortSweep
  split
  · exact (h.endSweep true).same (respond_sameBuffers _ k _)
  · exact h.same rfl

theorem State.withinCapacity.writeSweepCmd (k : Port) (v : Word) : (s.writeSweepCmd k v).withinCapacity := by
  unfold State.writeSweepCmd
  split_ifs
  · exact h.startSweep _ k v
  · exact h.startSweep _ k v
  · exact h.startSweep _ k v
  · exact h.abortSweep k
  · exact h.same rfl

theorem State.withinCapacity.popEvent (k : Port) : (s.popEvent k).withinCapacity :=
  (h.withEvents fun hq => hq.pop).same rfl

theorem State.withinCapacity.writeWindow (k : Port) (g : Reg) (v : Word) : (s.writeWindow k g v).withinCapacity := by
  cases g with
  | hubState => exact h.writeHubState k v
  | portCfg j => exact h.writePortCfg j k v
  | portCmd => exact h.writePortCmd k v
  | resTime => exact h.writeResTime k v
  | noticeTime => exact h.writeNoticeTime k v
  | urgency => exact h.writeUrgency k v
  | regionCmd => exact h.writeRegionCmd k v
  | sweepCmd => exact h.writeSweepCmd k v
  | regionWord n w => exact h.writeRegion n w k v
  | eventPop => exact h.popEvent k
  | lineQuery0 | sweepStatus0 | sweepStatus1 | lineQuery1 | eventHead0 | eventHead1 | eventStatus => exact h.same rfl

theorem State.withinCapacity.readWindow (k : Port) (g : Reg) : (s.readWindow k g).withinCapacity := by
  cases g <;> exact h.same rfl

/-- The checks of R179 answer an access or let it have its effect. -/
theorem State.withinCapacity.checkedAccess (k : Port) (t : Transaction) {effect : State → State}
    (he : (effect s).withinCapacity) : (s.checkedAccess k t effect).withinCapacity := by
  unfold State.checkedAccess
  split
  · exact h.same rfl
  · exact he

theorem State.withinCapacity.controlAccess (k : Port) (t : Transaction) : (s.controlAccess k t).withinCapacity := by
  refine h.checkedAccess k t ?_
  split
  · exact h
  · split
    · exact h.writeWindow k _ _
    · exact h.readWindow k _

end Ports

/-! ### The directory and sweeps (R17, R44 to R48, R168 to R175) -/

section Directory

variable {s : State} (h : s.withinCapacity)
include h

/-- A DIRTY victim that passes the checks finds room in the drain buffer (R45, R46). -/
theorem State.withinCapacity.allocate {si : SetIdx} {w : WayIdx} (hr : s.victimRefusal si w = none) (e : Entry) :
    (s.allocate si w e).withinCapacity := by
  have hevict : (s.evict si w).withinCapacity := by
    unfold State.evict
    split
    · exact h
    · exact h
    · exact h.same rfl
    · next x hx =>
      have hroom : s.drains.length < 2 := by
        by_contra hfull
        simp [State.victimRefusal, hx, Entry.held?, Entry.isDirty, State.drainRoom, hfull] at hr
      exact (h.addDrain hroom .evict _ x).same rfl
  exact hevict.same rfl

omit h in
theorem fillAllocated_sameBuffers (s : State) (q : Request) (w : WayIdx) (i : SlotId) :
    s.SameBuffers (((s.setSlot i (some (q.fill w))).enqueue (fillOp i q.region q.txn.line q.txn.word)).place q.port
      (.requester i)) := rfl

theorem State.withinCapacity.missAllocate (q : Request) : (s.missAllocate q).withinCapacity := by
  unfold State.missAllocate
  split
  · obtain ⟨c, hc⟩ | ⟨w, hr, hw⟩ := chooseVictim_cases s q fun w => s.installWrite q w
    · rw [hc]
      exact h.same rfl
    · rw [hw]
      exact (h.allocate hr _).same (respond_sameBuffers _ _ _)
  · split
    · exact h.same rfl
    · next i _ =>
      obtain ⟨c, hc⟩ | ⟨w, hr, hw⟩ := chooseVictim_cases s q fun w => s.startFill q w i
      · rw [hc]
        exact h.same rfl
      · rw [hw]
        exact (h.allocate hr _).same (fillAllocated_sameBuffers _ q w i)

theorem State.withinCapacity.missPath (q : Request) : (s.missPath q).withinCapacity := by
  unfold State.missPath
  split_ifs
  · exact h.same rfl
  · exact h.same rfl
  · exact h.same rfl
  · split
    · exact h.same rfl
    · exact h.missAllocate q

theorem State.withinCapacity.directory (q : Request) : (s.directory q).withinCapacity := by
  unfold State.directory
  split
  · unfold State.miss
    split
    · exact h.same rfl
    · exact h.same rfl
    all_goals exact h.missPath q
  · split
    · unfold State.joinFill
      split
      · exact h
      · exact h.same rfl
    · exact h
    · exact h.same (serve_sameBuffers s q _)
    · exact h.same (serve_sameBuffers s q _)

/-- A granted transaction (R17 to R21). -/
theorem State.withinCapacity.intake (k : Port) (t : Transaction) : (s.intake k t).withinCapacity := by
  unfold State.intake
  split_ifs
  · exact h.same rfl
  · exact h.controlAccess k t
  · exact h.same rfl
  · split
    · exact h.same rfl
    · split
      · exact h.same rfl
      · exact h.directory _

theorem State.withinCapacity.advance : s.advance.withinCapacity := by
  unfold State.advance
  split
  · exact h.same rfl
  · exact h.endSweep false

theorem State.withinCapacity.skipWay : s.skipWay.withinCapacity := State.withinCapacity.advance (h.same rfl)

theorem State.withinCapacity.sweepOut (x : Held) (kind : NoticeKind) : (s.sweepOut x kind).withinCapacity :=
  State.withinCapacity.advance (h.same rfl)

theorem State.withinCapacity.cleanDirty (x : Held) : (s.cleanDirty x).withinCapacity := by
  unfold State.cleanDirty
  split
  · exact h.skipWay
  · split
    · next hroom =>
      have hdrained := h.addDrain (drainRoom_iff.mp hroom) .copy (s.sweepLine x) x
      have hcleaned : (((s.addDrain .copy (s.sweepLine x) x).setEntry s.sweep.set s.sweep.way
          (.clean x)).countBack).withinCapacity := hdrained.same rfl
      exact hcleaned.advance
    · exact h.same rfl

theorem State.withinCapacity.cleanStep : s.cleanStep.withinCapacity := by
  unfold State.cleanStep
  split
  · exact h.advance
  · exact h.advance
  · split
    · exact h.skipWay
    · exact h.advance
  · split
    · exact h.cleanDirty _
    · exact h.advance

theorem State.withinCapacity.flushClean (x : Held) : (s.flushClean x).withinCapacity := by
  unfold State.flushClean
  split
  · exact h.same rfl
  · exact h.sweepOut x .revoke

theorem State.withinCapacity.flushDirty (x : Held) : (s.flushDirty x).withinCapacity := by
  unfold State.flushDirty
  split
  · exact h.skipWay
  · split
    · exact h.same rfl
    · next hfull =>
      have hroom : s.drainRoom = true := by simpa using hfull
      split
      · exact h.same rfl
      · have hdrained := h.addDrain (drainRoom_iff.mp hroom) .evict (s.sweepLine x) x
        have hcounted : (s.addDrain .evict (s.sweepLine x) x).countBack.withinCapacity := hdrained.same rfl
        exact hcounted.sweepOut x .revoke

theorem State.withinCapacity.flushStep : s.flushStep.withinCapacity := by
  unfold State.flushStep
  split
  · exact h.advance
  · split
    · exact h.skipWay
    · exact h.advance
  · split_ifs
    · exact h.skipWay
    · exact h.flushClean _
    · exact h.advance
  · split_ifs
    · exact h.skipWay
    · exact h.flushDirty _
    · exact h.advance

theorem State.withinCapacity.discardHeld (x : Held) : (s.discardHeld x).withinCapacity := by
  unfold State.discardHeld
  split_ifs
  · exact h.skipWay
  · exact h.same rfl
  · exact h.sweepOut x .invalidate

theorem State.withinCapacity.discardStep : s.discardStep.withinCapacity := by
  unfold State.discardStep
  split
  · exact h.advance
  · split
    · exact h.skipWay
    · exact h.advance
  · split
    · exact h.discardHeld _
    · exact h.advance
  · split
    · exact h.discardHeld _
    · exact h.advance

/-! ### Foreign writes and notices (R103, R106, R115 to R125) -/

/-- A FIFO with room takes a report (R115). -/
theorem State.withinCapacity.acceptForeign (room : s.fifo.hasRoom = true) (l : LineAddr) :
    (s.acceptForeign l).withinCapacity := by
  have hroom : s.fifo.lines.length < 8 := by simpa [ForeignFifo.hasRoom] using room
  refine (h.withFifo (f := (s.acceptForeign l).fifo) fun _ => ⟨?_, fun _ => ?_⟩).same rfl
  · simpa [State.acceptForeign] using hroom
  · simp [State.acceptForeign]

theorem State.withinCapacity.recordConflict (l : LineAddr) (dirty : Option RegionId) :
    (s.recordConflict l dirty).withinCapacity := by
  unfold State.recordConflict
  split
  · exact h
  · exact h.record _

omit h in
/-- A line that leaves its way for a foreign write (R93, R120). -/
theorem lineOut_sameBuffers (s : State) (l : LineAddr) (w : WayIdx) (x : Held) :
    s.SameBuffers (((s.sendNotices .invalidate l x.sharers).invalidate (setOf l) w).freeLine l) := rfl

/-- The head of a FIFO that is not empty is deferred, or leaves it (R119, R120). -/
theorem State.withinCapacity.evaluateHeld (head : s.fifo.lines ≠ []) (l : LineAddr) (w : WayIdx) (x : Held) :
    (s.evaluateHeld l w x).withinCapacity := by
  unfold State.evaluateHeld
  split
  · exact h.withFifo fun hf => ⟨hf.1, fun _ => head⟩
  · exact ((h.recordConflict l _).same (lineOut_sameBuffers _ l w x)).popForeign

theorem State.withinCapacity.evaluate : s.evaluate.withinCapacity := by
  unfold State.evaluate
  split
  · exact h
  · next l _ hl =>
    have head : s.fifo.lines ≠ [] := by rw [hl]; exact List.cons_ne_nil _ _
    unfold State.evaluateLine
    split
    · exact (h.recordConflict l none).popForeign
    · split
      · exact h.evaluateHeld head l _ _
      · exact h.evaluateHeld head l _ _
      · next i _ =>
        have htainted : (s.taint i).withinCapacity := h.same rfl
        exact (htainted.recordConflict l none).popForeign
      · exact (h.recordConflict l none).popForeign

/-- An acknowledged notice may let a DEFERRED head go on (R103, R125). -/
theorem State.withinCapacity.acknowledge (k : Port) : (s.acknowledge k).withinCapacity :=
  (h.withFifo fun hf => hf.roomGained k).same rfl

theorem State.withinCapacity.noticeTimedOut (k : Port) : (s.noticeTimedOut k).withinCapacity := by
  unfold State.noticeTimedOut
  split
  · exact h
  · exact (h.detach k).record _

end Directory

/-! ### Every step -/

section Steps

variable {s t : State}

theorem State.withinCapacity.happen (h : s.withinCapacity) {p : Bool} {f : State → State}
    (hn : happen s p f = .next t) (hf : p = true → s.quiet.withinCapacity → (f s.quiet).withinCapacity) :
    t.withinCapacity := by
  obtain hc | ⟨-, hp, hc⟩ := happen_cases s p f <;> rw [hc] at hn <;> obtain rfl := Host.Outcome.next.inj hn
  · exact h
  · exact hf hp (h.same rfl)

theorem State.withinCapacity.takeRequest (h : s.withinCapacity) {named : Transaction → Bool}
    {f : State → Port → Transaction → State} (hn : takeRequest s named f = .next t)
    (hf : ∀ (u : State) (k : Port) (x : Transaction), u.withinCapacity → (f u k x).withinCapacity) :
    t.withinCapacity := by
  obtain hc | ⟨k, x, -, -, hc⟩ := takeRequest_cases s named f <;> rw [hc] at hn <;>
    obtain rfl := Host.Outcome.next.inj hn
  · exact h
  · exact hf _ k x (h.same rfl)

/-- A row of the window that is a write of a command. -/
theorem State.withinCapacity.takeWrite (h : s.withinCapacity) {named : Reg → Bool} {value : Word → Bool}
    {effect : State → Port → Word → State} (hn : takeWrite s named value effect = .next t)
    (he : ∀ (u : State) (k : Port) (v : Word), u.withinCapacity → (effect u k v).withinCapacity) : t.withinCapacity :=
  h.takeRequest hn fun _ k x hu => hu.checkedAccess k x (he _ k x.wdata hu)

theorem State.withinCapacity.execPortReset (h : s.withinCapacity) {k : Port} (hn : execPortReset k s = .next t) :
    t.withinCapacity := by
  unfold Machine.execPortReset at hn
  split at hn <;> obtain rfl := Host.Outcome.next.inj hn
  · exact h.same rfl
  · have hquiet : s.quiet.withinCapacity := h.same rfl
    exact hquiet.portReset k

theorem State.withinCapacity.execPortResetDeassert (h : s.withinCapacity) {k : Port}
    (hn : execPortResetDeassert k s = .next t) : t.withinCapacity := by
  unfold Machine.execPortResetDeassert at hn
  split at hn <;> obtain rfl := Host.Outcome.next.inj hn <;> exact h.same rfl

theorem State.withinCapacity.execPowerOnReset (h : s.withinCapacity) {asserted : Bool}
    (hn : execPowerOnReset asserted s = .next t) : t.withinCapacity := by
  unfold Machine.execPowerOnReset at hn
  split_ifs at hn <;> obtain rfl := Host.Outcome.next.inj hn
  · exact atPowerOn_withinCapacity s true
  · rw [resetAsserted_atPowerOn]
    exact atPowerOn_withinCapacity s false
  · exact h

theorem State.withinCapacity.execPortCfg (h : s.withinCapacity) (hn : execPortCfg s = .next t) : t.withinCapacity := by
  refine h.takeRequest hn fun u k x hu => hu.checkedAccess k x ?_
  split
  · exact hu
  · exact hu.writePortCfg _ k _

theorem State.withinCapacity.execRegion (h : s.withinCapacity) (hn : execRegion s = .next t) : t.withinCapacity := by
  refine h.takeRequest hn fun u k x hu => hu.checkedAccess k x ?_
  split
  · exact hu
  · exact hu.writeRegion _ _ k _

theorem State.withinCapacity.execControlWindowWrite (h : s.withinCapacity)
    (hn : execControlWindowWrite s = .next t) : t.withinCapacity := by
  refine h.takeRequest hn fun u k x hu => hu.checkedAccess k x ?_
  split
  · exact hu
  · exact hu.writeParameter k _ _

theorem State.withinCapacity.execEventHead (h : s.withinCapacity) (hn : execEventHead s = .next t) :
    t.withinCapacity := by
  refine h.takeRequest hn fun u k x hu => hu.checkedAccess k x ?_
  split <;> exact hu.readWindow k _

/-- Every command keeps the bounds. -/
theorem State.withinCapacity.exec (h : s.withinCapacity) (c : Instr) (hn : exec c s = .next t) : t.withinCapacity := by
  cases c with
  | acceptance k x => exact h.happen (show execAcceptance k x s = _ from hn) fun _ hq => hq.same rfl
  | read | write | lineRead | lineWrite | reserveRead | releaseWrite | release =>
    exact h.takeRequest (show Machine.takeRequest s _ State.intake = _ from hn) fun _ k x hu => hu.intake k x
  | portReset k => exact h.execPortReset hn
  | portResetDeassert k => exact h.execPortResetDeassert hn
  | powerOnReset asserted => exact h.execPowerOnReset hn
  | ack data => exact h.happen (show execAck data s = _ from hn) fun _ hq => hq.acked data
  | err withAck => exact h.happen (show execErr withAck s = _ from hn) fun _ hq => hq.errored
  | readyTimeout =>
    exact h.happen (show execReadyTimeout s = _ from hn) fun _ hq => (hq.elapse _).timedOut
  | probeTimerRunOut r => exact h.happen (show execProbeTimerRunOut r s = _ from hn) fun _ hq => hq.same rfl
  | expiry e => exact h.happen (show execExpiry e s = _ from hn) fun _ hq => hq.same rfl
  | acknowledgement k w => exact h.happen (show execAcknowledgement k w s = _ from hn) fun _ hq => hq.acknowledge k
  | noticeTimeout k =>
    exact h.happen (show execNoticeTimeout k s = _ from hn) fun _ hq => (hq.elapse _).noticeTimedOut k
  | foreignWrite a => exact h.happen (show execForeignWrite a s = _ from hn) fun room hq => hq.acceptForeign room _
  | evaluation => exact h.happen (show execEvaluation s = _ from hn) fun _ hq => hq.evaluate
  | cleanSweepStep => exact h.happen (show execCleanSweepStep s = _ from hn) fun _ hq => hq.cleanStep
  | flushSweepStep => exact h.happen (show execFlushSweepStep s = _ from hn) fun _ hq => hq.flushStep
  | discardSweepStep => exact h.happen (show execDiscardSweepStep s = _ from hn) fun _ hq => hq.discardStep
  | run => exact h.takeWrite (show execRun s = _ from hn) fun _ _ _ hu => hu.same rfl
  | softReset => exact h.takeWrite (show execSoftReset s = _ from hn) fun u k _ _ => softReset_withinCapacity u k
  | portCfg => exact h.execPortCfg hn
  | attach => exact h.takeWrite (show execAttach s = _ from hn) fun _ k v hu => hu.attachPort k v
  | detach => exact h.takeWrite (show execDetach s = _ from hn) fun _ k v hu => hu.detachPort k v
  | controlWindowWrite => exact h.execControlWindowWrite hn
  | region => exact h.execRegion hn
  | enable => exact h.takeWrite (show execEnable s = _ from hn) fun _ k v hu => hu.enableRegion k v
  | disable => exact h.takeWrite (show execDisable s = _ from hn) fun _ k v hu => hu.disableRegion k v
  | forceProbe => exact h.takeWrite (show execForceProbe s = _ from hn) fun _ k v hu => hu.forceProbe k v
  | forceOnline => exact h.takeWrite (show execForceOnline s = _ from hn) fun _ k v hu => hu.forceOnline k v
  | forceOffline => exact h.takeWrite (show execForceOffline s = _ from hn) fun _ k v hu => hu.forceOffline k v
  | clean => exact h.takeWrite (show execClean s = _ from hn) fun _ k v hu => hu.startSweep .clean k v
  | flush => exact h.takeWrite (show execFlush s = _ from hn) fun _ k v hu => hu.startSweep .flush k v
  | discard => exact h.takeWrite (show execDiscard s = _ from hn) fun _ k v hu => hu.startSweep .discard k v
  | abort => exact h.takeWrite (show execAbort s = _ from hn) fun _ k _ hu => hu.abortSweep k
  | lineQuery => exact h.takeWrite (show execLineQuery s = _ from hn) fun _ _ _ hu => hu.same rfl
  | eventHead => exact h.execEventHead hn
  | eventPop => exact h.takeWrite (show execEventPop s = _ from hn) fun _ k _ hu => hu.popEvent k

end Steps

/-- Settles O5: every operation that makes an entry finds room for it, and a lost record finds the queue full. -/
theorem stepKeepsBuffersWithinCapacity : Obligations.StepKeepsBuffersWithinCapacity := by
  unfold Obligations.StepKeepsBuffersWithinCapacity
  intro s t h hstep
  unfold step at hstep
  split at hstep
  · split at hstep
    · obtain rfl := Host.Outcome.next.inj hstep
      unfold State.tick
      split
      · exact h
      · exact h.same rfl
    · exact h.exec _ hstep
  · next cs _ => exact State.withinCapacity.exec (h.same rfl : (s.withPending cs).withinCapacity) _ hstep

end Sys2Proof.Machine

/-! ## Ends of device operations

The next state of each happening at the Device Port that ends the head, with success, by ERR, or by timeout (R140 to
R149). Each is first said of the operations that bring it about, as one record update of any state. -/

namespace Sys2Proof.Machine

/-! ### Rules for the answers and the ends of operations -/

section Rules

variable {s : State}

/-- The state with the responses `rs` given after those that the happening has given already. -/
def State.giving (s : State) (rs : List (Port × Response)) : State :=
  { s with ports := answeredPorts s.ports rs, out := { s.out with responses := s.out.responses ++ rs } }

theorem giving_nil (s : State) : s.giving [] = s := by
  simp [State.giving, answeredPorts]

theorem giving_append (s : State) (rs rs' : List (Port × Response)) :
    (s.giving rs).giving rs' = s.giving (rs ++ rs') := by
  simp [State.giving, answeredPorts]

theorem respond_eq_giving (s : State) (k : Port) (r : Response) : s.respond k r = s.giving [(k, r)] := respond_eq s k r

/-- Responses that are the happening's first. -/
theorem giving_quiet (h : s.out = outputs []) (rs : List (Port × Response)) : s.giving rs = s.withAnswers rs := by
  rw [State.giving, h]
  rfl

/-- The transactions of a slot are answered in order. -/
theorem answerAll_eq (s : State) (qs : List Request) (answer : Request → Response) :
    s.answerAll qs answer = s.giving (qs.map fun q => (q.port, answer q)) := by
  induction qs generalizing s with
  | nil => exact (giving_nil s).symm
  | cons q qs ih =>
    have hrest : s.answerAll (q :: qs) answer = (s.respond q.port (answer q)).answerAll qs answer := rfl
    rw [hrest, ih, respond_eq_giving, giving_append]
    rfl

/-- The owner of an operation is answered, if it has one (R146 to R148). -/
theorem answerOwner_eq (s : State) (op : Operation) (r : Response) :
    s.answerOwner op r = s.giving (ownerAnswer op r) := by
  unfold State.answerOwner ownerAnswer
  cases op.owner with
  | none => exact (giving_nil s).symm
  | some k => exact respond_eq_giving s k r

/-- A lost write is recorded if it is write-through (R147). -/
theorem recordLost_eq_lostOf (s : State) (op : Operation) (how : LostHow) :
    s.recordLost op how = { s with events := (lostOf how op).foldl EventQueue.push s.events } := by
  cases hk : op.kind with
  | portWrite k wt => cases wt <;> simp [State.recordLost, lostOf, hk, State.record]
  | _ => simp [State.recordLost, lostOf, hk]

/-- A port operation fails (R147). -/
theorem failPortOp_eq (s : State) (op : Operation) (c : FaultCause) (how : LostHow) :
    s.failPortOp op c how = { s.giving (ownerAnswer op (.fault c)) with
      events := (lostOf how op).foldl EventQueue.push s.events } := by
  rw [State.failPortOp, recordLost_eq_lostOf, answerOwner_eq]
  rfl

/-- A way becomes INVALID (R39, R174). -/
theorem invalidate_eq (s : State) (si : SetIdx) (w : WayIdx) :
    s.invalidate si w = { s with dir := s.withInvalid si w, sweep := s.sweep.wayChanged si w } := by
  rw [State.invalidate, State.sink, State.setEntry_dir, setAt_setAt, setAt_getElem_self]
  rfl

/-- Fill failure (R65). -/
theorem failFill_eq {i : SlotId} {f : Fill} (hf : s.slots[i] = some f) (c : FaultCause) :
    s.failFill i c = { s.giving (answersTo (f.requester.toList ++ f.waiters) (.fault c)) with
      slots := setAt s.slots i none
      dir := s.withInvalid (setOf f.line) f.way
      sweep := s.sweep.wayChanged (setOf f.line) f.way } := by
  simp only [State.failFill, hf]
  rw [answerAll_eq, invalidate_eq]
  rfl

theorem failFill_free {i : SlotId} (hf : s.slots[i] = none) (c : FaultCause) : s.failFill i c = s := by
  simp only [State.failFill, hf]

/-- Turning to the head twice is turning to it once. -/
theorem kick_kick (d : DevicePort) (regions : Vector Region 8) : (d.kick regions).kick regions = d.kick regions := by
  by_cases hd : d.phase = .idle
  · rw [kick_idle regions hd]
    by_cases hp : (d.turnTo regions d.queue).phase = .idle
    · rw [kick_idle regions hp]
      rfl
    · exact kick_of_ne regions hp
  · rw [kick_of_ne regions hd, kick_of_ne regions hd]

end Rules

/-! ### The head leaves an empty bus (R136, R143) -/

section Ends

variable {s : State} {op : Operation} {q : List Operation} {now : Transfer} {timer : Nat} {rest : List Transfer}
  {gathered : Word} {kept : List Word} {regions : Vector Region 8}

/-- The state in which the head has left the queue and the bus, with `q` behind it, and its result is not handed on
yet. -/
def State.headLeft (s : State) (regions : Vector Region 8) (q : List Operation) : State :=
  { s with out := outputs [], regions := regions, dev := { s.dev with queue := q, phase := .idle } }

theorem popHead_eq (hq : s.dev.queue = op :: q) (r : RegionId) (n : Nat) :
    (s.quiet.setCount r n).popHead = s.headLeft (s.withCount r n) q := by
  have hpop : s.dev.popHead = { s.dev with queue := q, phase := .idle } := by rw [DevicePort.popHead, hq]; rfl
  have hdev : (s.quiet.setCount r n).popHead.dev = { s.dev with queue := q, phase := .idle } := hpop
  exact congrArg (fun dev => { s with out := outputs [], regions := s.withCount r n, dev := dev }) hdev

/-- The Device Port after port `k`'s operation has left an empty bus (R136, R146, R149). -/
theorem release_kick (d : DevicePort) (regions : Vector Region 8) (k : Port) (q : List Operation) :
    (({ d with queue := q, phase := .idle } : DevicePort).release regions k).kick regions =
      d.afterOwn regions k q := by
  cases hp : d.places[k] with
  | free | active => simp only [DevicePort.release, DevicePort.afterOwn, hp]; rfl
  | orphaned parked =>
    cases parked with
    | none => simp only [DevicePort.release, DevicePort.afterOwn, hp]; rfl
    | some x =>
      simp only [DevicePort.release, DevicePort.afterOwn, hp, DevicePort.join, kick_kick]
      rfl

/-- A port operation ends: its place is released and the Device Port turns to the next head (R146 to R149). -/
theorem headLeft_release (s : State) (regions : Vector Region 8) (k : Port) (q : List Operation)
    (rs : List (Port × Response)) (events : EventQueue) :
    (({ (s.headLeft regions q).giving rs with events := events } : State).releasePlace k).kick =
      { s.withAnswers rs with regions := regions, events := events, dev := s.dev.afterOwn regions k q } := by
  rw [giving_quiet rfl, ← release_kick]
  rfl

/-- A fill fails at an empty bus (R65, R136). -/
theorem headLeft_failFill (s : State) (regions : Vector Region 8) {i : SlotId} {f : Fill} (hf : s.slots[i] = some f) :
    ((s.headLeft regions q).failFill i .device).kick =
      { s.withAnswers (answersTo (f.requester.toList ++ f.waiters) (.fault .device)) with
        regions := regions
        slots := setAt s.slots i none
        dir := s.withInvalid (setOf f.line) f.way
        sweep := s.sweep.wayChanged (setOf f.line) f.way
        dev := s.dev.turnTo regions q } := by
  have hslot : (s.headLeft regions q).slots[i] = some f := hf
  rw [failFill_eq hslot, giving_quiet rfl]
  rfl

/-- A port operation fails at an empty bus (R147). -/
theorem headLeft_failPortOp (s : State) (regions : Vector Region 8) (op : Operation) (k : Port) (q : List Operation) :
    ((((s.headLeft regions q).failPortOp op .device .device).releasePlace k).kick) =
      { s.withAnswers (ownerAnswer op (.fault .device)) with
        regions := regions
        events := (lostOf .device op).foldl EventQueue.push s.events
        dev := s.dev.afterOwn regions k q } := by
  rw [failPortOp_eq, headLeft_release]
  rfl

/-- The record of a lost write of port `k` (R147). -/
theorem lostOf_push {k : Port} (hk : op.isOfPort k) (how : LostHow) (events : EventQueue) :
    (lostOf how op).foldl EventQueue.push events =
      if op.kind = .portWrite k true then events.push (.writeLost how k op.region op.line) else events := by
  obtain hk | hk | hk := hk <;> simp [lostOf, hk]

/-- A probe's region starts its timer again at an empty bus (R157, R160). -/
theorem headLeft_startProbeTimer (s : State) (q : List Operation) {r : RegionId} {n : Nat}
    (hn : regions[r].cfg.probeTime = n) :
    ((s.headLeft regions q).startProbeTimer r).kick = { s with
      out := outputs []
      regions := setAt regions r { regions[r] with probeTimer := some n }
      dev := s.dev.turnTo (setAt regions r { regions[r] with probeTimer := some n }) q } := by
  subst hn
  rfl

/-- A drain entry leaves the buffer at an empty bus (R72, R74). -/
theorem headLeft_dropDrain (s : State) (regions : Vector Region 8) (q : List Operation) (p : DrainPlace) :
    ((s.headLeft regions q).dropDrain p).kick = { s with
      out := outputs []
      regions := regions
      drains := s.drains.filter fun e => e.place != p
      sweep := s.sweep.drainLeft
      dev := s.dev.turnTo regions q } := rfl

/-- An operation goes to the tail at an empty bus (R74). -/
theorem headLeft_enqueue (s : State) (regions : Vector Region 8) (q : List Operation) (op : Operation) :
    ((s.headLeft regions q).enqueue op).kick =
      { s with out := outputs [], regions := regions, dev := s.dev.turnTo regions (q ++ [op]) } := by
  have hdev : (({ s.dev with queue := q, phase := .idle } : DevicePort).join regions op).kick regions =
      s.dev.turnTo regions (q ++ [op]) := kick_kick _ regions
  exact congrArg (fun dev => { s with out := outputs [], regions := regions, dev := dev }) hdev

/-- A region's count is no part of its configuration. -/
theorem withCount_cfg (s : State) (r j : RegionId) (n : Nat) : (s.withCount r n)[j].cfg = s.regions[j].cfg := by
  rw [State.withCount, setAt_getElem]
  split
  · next hr => rw [hr]
  · rfl

/-! ### ACK of the last transfer (R140, R143) -/

/-- The ACK of the last transfer of the head hands its result on with success. -/
theorem exec_ack_last (h : s.underWay op q now timer [] gathered kept) (data : Word) :
    exec (.ack data) s =
      .next (((s.quiet.setCount now.region 0).ackWord op [] (gather op now gathered data) kept)) := by
  obtain ⟨hpin, hq, hphase⟩ := h
  have hpresents : s.dev.phase.presents = true := by rw [hphase]; rfl
  refine (happen_of (f := fun s => s.acked data) hpin hpresents).trans (congrArg _ ?_)
  simp only [State.acked, State.quiet_dev, hphase, hq, State.ackHead, ite_self]

/-- The end of an operation whose words are not a fill's. -/
theorem exec_ack_last_of_ne (h : s.underWay op q now timer [] gathered kept) (hk : ∀ i, op.kind ≠ .fill i)
    (data : Word) :
    exec (.ack data) s = .next (((s.headLeft (s.withCount now.region 0) q).handSuccess op
      (keepWord op kept (gather op now gathered data))).kick) := by
  have hreceive (u : State) (w : Word) : u.receive op w = u := by
    cases hop : op.kind with
    | fill i => exact absurd hop (hk i)
    | _ => simp only [State.receive, hop]
  rw [exec_ack_last h]
  simp only [State.ackWord, State.endSuccess, hreceive]
  rw [popHead_eq h.2.1]

end Ends

/-! ### A Device Port that has begun with its head (R136)

Work that joins the tail of an IDLE Device Port makes it begin with the head. Where several operations join one after
the other, what is presented at the end is the head's all the same. -/

section Begun

variable {d : DevicePort} {regions regions' : Vector Region 8}

/-- The Device Port is IDLE, or has begun with the head of its queue. -/
def DevicePort.begun (d : DevicePort) (regions : Vector Region 8) : Prop :=
  d.phase = .idle ∨ (d.queue ≠ [] ∧ d.phase = presentHead regions d.queue)

/-- The head is presented by its region's configuration alone. -/
theorem presentHead_congr (hcfg : ∀ r : RegionId, regions'[r].cfg = regions[r].cfg) (Q : List Operation) :
    presentHead regions' Q = presentHead regions Q := by
  unfold presentHead
  simp only [hcfg]

/-- Work behind a head has no part in what is presented. -/
theorem presentHead_append {Q : List Operation} (hQ : Q ≠ []) (ops : List Operation) :
    presentHead regions (Q ++ ops) = presentHead regions Q := by
  cases Q with
  | nil => exact absurd rfl hQ
  | cons op Q => rfl

theorem DevicePort.begun.withPlaces (h : d.begun regions) (places : Vector Place 4) :
    ({ d with places := places } : DevicePort).begun regions := h

theorem DevicePort.begun.join (h : d.begun regions) (op : Operation) : (d.join regions op).begun regions := by
  have hne : d.queue ++ [op] ≠ [] := List.concat_ne_nil op d.queue
  have hjoined (hp : d.phase ≠ .idle) : d.join regions op = { d with queue := d.queue ++ [op] } := kick_of_ne regions hp
  by_cases hp : d.phase = .idle
  · have hturned : d.join regions op = d.turnTo regions (d.queue ++ [op]) := kick_idle regions hp
    exact .inr ⟨by rw [hturned]; exact hne, by rw [hturned]; rfl⟩
  · obtain hi | ⟨hQ, hd⟩ := h
    · exact absurd hi hp
    · rw [hjoined hp]
      exact .inr ⟨hne, hd.trans (presentHead_append hQ [op]).symm⟩

/-- Turned to its head at last, it presents what the head of its queue gives. -/
theorem DevicePort.begun.kick_eq (h : d.begun regions) (hcfg : ∀ r : RegionId, regions'[r].cfg = regions[r].cfg) :
    d.kick regions' = d.turnTo regions' d.queue := by
  by_cases hp : d.phase = .idle
  · exact kick_idle regions' hp
  · obtain hi | ⟨-, hd⟩ := h
    · exact absurd hi hp
    · rw [kick_of_ne regions' hp, DevicePort.turnTo, presentHead_congr hcfg, ← hd]

/-- Operations join the tail one after the other. -/
theorem joins_eq (ops : List Operation) (d : DevicePort) (regions : Vector Region 8) :
    (ops.foldl (fun d op => d.join regions op) d).queue = d.queue ++ ops ∧
      (ops.foldl (fun d op => d.join regions op) d).places = d.places ∧
      (d.begun regions → (ops.foldl (fun d op => d.join regions op) d).begun regions) := by
  induction ops generalizing d with
  | nil => exact ⟨(List.append_nil _).symm, rfl, id⟩
  | cons op ops ih =>
    obtain ⟨hqueue, hplaces, hbegun⟩ := ih (d.join regions op)
    refine ⟨hqueue.trans ?_, hplaces.trans (join_places d regions op), fun h => hbegun (h.join op)⟩
    rw [join_queue, List.append_assoc]
    rfl

/-- Operations join an IDLE Device Port, which turns to its head. -/
theorem joins_kick (hd : d.phase = .idle) (ops : List Operation) :
    (ops.foldl (fun d op => d.join regions op) d).kick regions = d.turnTo regions (d.queue ++ ops) := by
  obtain ⟨hqueue, hplaces, hbegun⟩ := joins_eq ops d regions
  rw [(hbegun (.inl hd)).kick_eq fun _ => rfl, hqueue, DevicePort.turnTo, hplaces]
  rfl

end Begun

/-! ### A region returns (R133, R159) -/

section Ack

variable {s : State} {op : Operation} {q : List Operation} {now : Transfer} {timer : Nat} {rest : List Transfer}
  {gathered : Word} {kept : List Word} {regions : Vector Region 8}

/-- The writes of drain entries join the queue, oldest first (R75). -/
theorem enqueueDrains_eq (es : List DrainEntry) (s : State) :
    es.foldl (fun s e => s.enqueue e.op) s =
      { s with dev := (es.map DrainEntry.op).foldl (fun d op => d.join s.regions op) s.dev } := by
  induction es generalizing s with
  | nil => rfl
  | cons e es ih => exact ih (s.enqueue e.op)

/-- A region returns at an empty bus: its HELD drains join the queue, oldest first (R75, R133, R159). -/
theorem headLeft_comeOnline (s : State) (regions : Vector Region 8) (q : List Operation) (r : RegionId) (e : Event)
    (up : Vector Region 8)
    (hup : up = setAt regions r { regions[r] with health := .online, count := 0, probeTimer := none }) :
    ((s.headLeft regions q).comeOnline r e).kick = { s with
      out := outputs []
      regions := up
      drains := s.drains.map fun e => if e.region = r then { e with held := false } else e
      events := s.events.push e
      dev := s.dev.turnTo up (q ++ (s.drains.filter fun e => e.held && e.region == r).map DrainEntry.op) } := by
  subst hup
  rw [State.comeOnline, State.requeueDrains, enqueueDrains_eq]
  have hdev := joins_kick (d := ({ s.dev with queue := q, phase := .idle } : DevicePort))
    (regions := setAt regions r { regions[r] with health := .online, count := 0, probeTimer := none }) rfl
    ((s.drains.filter fun e => e.held && e.region == r).map DrainEntry.op)
  have hdev' := (kick_kick _ _).trans hdev
  exact congrArg (fun dev => { s with
    out := outputs []
    regions := setAt regions r { regions[r] with health := .online, count := 0, probeTimer := none }
    drains := s.drains.map fun e : DrainEntry => if e.region = r then { e with held := false } else e
    events := s.events.push e
    dev := dev }) hdev'

/-- A read takes the bytes of the lanes moved (R137, R140). -/
theorem gather_read (hk : op.kind.isWrite = false) (data : Word) :
    gather op now gathered data = gathered ||| (data &&& byteMask now.lanes) := by
  rw [gather, hk]
  rfl

/-- A PORT_READ keeps its words at the Device Port (R140). -/
theorem keepWord_read {k : Port} (hk : op.kind = .portRead k) (w : Word) : keepWord op kept w = kept ++ [w] := by
  rw [keepWord, hk]
  rfl

end Ack

/-- Settles O35, by the kind of the head. -/
theorem ackEndsDrainPortOperationOrProbe : Obligations.AckEndsDrainPortOperationOrProbe := by
  unfold Obligations.AckEndsDrainPortOperationOrProbe
  intro data s op q now timer gathered kept h regions word
  refine ⟨fun p hk => ?_, fun k wt hk => ?_, fun k i m hk he hkept => ?_, fun k c hk he => ?_, fun hk => ?_⟩
  all_goals rw [exec_ack_last_of_ne h (by simp [hk])]
  · simp only [State.handSuccess, hk]
    exact congrArg _ (headLeft_dropDrain s regions q p)
  · simp only [State.handSuccess, hk, answerOwner_eq]
    exact congrArg _ (headLeft_release s regions k q _ s.events)
  · have hword : op.readData (keepWord op kept (gather op now gathered data)) = .word word := by
      rw [keepWord_read hk, gather_read (by rw [hk]; rfl), Operation.readData, he, hkept]
      rfl
    simp only [State.handSuccess, hk, answerOwner_eq, hword]
    exact congrArg _ (headLeft_release s regions k q _ s.events)
  · have hline : op.readData (keepWord op kept (gather op now gathered data)) =
        .line (lineOfWords (kept ++ [word])) false := by
      rw [keepWord_read hk, gather_read (by rw [hk]; rfl), Operation.readData, he]
    simp only [State.handSuccess, hk, answerOwner_eq, hline]
    exact congrArg _ (headLeft_release s regions k q _ s.events)
  · simp only [State.handSuccess, hk]
    refine congrArg _ (headLeft_comeOnline s regions q op.region _ _ ?_)
    simp only [regions, withCount_cfg]

end Sys2Proof.Machine

namespace Sys2Proof.Machine

/-! ### Fill completion (R58, R59, R64) -/

section Fills

variable {s : State} {op : Operation} {q : List Operation} {now : Transfer} {timer : Nat} {gathered : Word}
  {kept : List Word} {i : SlotId} {f : Fill}

/-- The state in which the head has left and the fill of slot `i` has all its words, and the fill is not completed
yet. -/
def State.filled (s : State) (regions : Vector Region 8) (q : List Operation) (i : SlotId) (f : Fill) : State :=
  { s.headLeft regions q with slots := setAt s.slots i (some f) }

/-- The ACK of the last transfer of a fill hands it its last word, and completes it. -/
theorem exec_ack_fill (h : s.underWay op q now timer [] gathered kept) (hk : op.kind = .fill i)
    (hf : s.slots[i] = some f) (data : Word) :
    exec (.ack data) s = .next (((s.filled (s.withCount now.region 0) q i { f with
      received := f.received ++ [gathered ||| (data &&& byteMask now.lanes)] }).completeFill i).kick) := by
  have hreceive : (s.quiet.setCount now.region 0).receive op (gathered ||| (data &&& byteMask now.lanes)) =
      { s.quiet.setCount now.region 0 with slots := setAt s.slots i (some { f with
        received := f.received ++ [gathered ||| (data &&& byteMask now.lanes)] }) } := by
    simp only [State.receive, hk]
    rw [show (s.quiet.setCount now.region 0).slots = s.slots from rfl, hf]
    rfl
  have hpop := popHead_eq h.2.1 now.region 0
  rw [exec_ack_last h, gather_read (by rw [hk]; rfl)]
  simp only [State.ackWord, State.endSuccess, State.handSuccess, hk, hreceive]
  exact congrArg (fun u : State => Host.Outcome.next ((({ u with slots := setAt s.slots i (some { f with
    received := f.received ++ [gathered ||| (data &&& byteMask now.lanes)] }) } : State).completeFill i).kick)) hpop

/-- Fill completion with taint, at an empty bus (R64). -/
theorem filled_tainted (s : State) (regions : Vector Region 8) (q : List Operation) (i : SlotId)
    (ht : f.tainted = true) :
    ((s.filled regions q i f).completeFill i).kick =
      { s.withAnswers (f.served.map fun r => (r.port, r.taintedAnswer (arrange f.critical f.received))) with
        regions := regions
        slots := setAt s.slots i none
        dir := s.withInvalid (setOf f.line) f.way
        sweep := s.sweep.wayChanged (setOf f.line) f.way
        dev := s.dev.turnTo regions q } := by
  have hslot : (s.filled regions q i f).slots[i] = some f := setAt_getElem_self s.slots i (some f)
  simp only [State.completeFill, hslot, ht, if_true, State.taintedFill]
  rw [answerAll_eq, giving_quiet rfl, invalidate_eq, ← setAt_setAt s.slots i (some f) none]
  rfl

/-- Fill completion without taint: the line is installed and serves (R59). -/
theorem filled_installed (s : State) (regions : Vector Region 8) (q : List Operation) (i : SlotId)
    (ht : f.tainted = false) :
    (s.filled regions q i f).completeFill i =
      (((s.filled regions q i f).setEntry (setOf f.line) f.way (.clean f.installed)).serveAll f.way
        f.served).setSlot i none := by
  have hslot : (s.filled regions q i f).slots[i] = some f := setAt_getElem_self s.slots i (some f)
  simp only [State.completeFill, hslot, ht, Bool.false_eq_true, if_false]
  rfl

/-- A slot becomes FREE, and the Device Port turns to the head. -/
theorem setSlot_kick (s : State) (i : SlotId) :
    (s.setSlot i none).kick = { s with slots := setAt s.slots i none, dev := s.dev.kick s.regions } := rfl

/-- Hit service of a line that the lookup finds is hit service at fill completion (R30). -/
theorem serve_of_hits {u : State} {x : Request} {w : WayIdx} {y : Held} (h : u.hits x.txn.line w y) :
    u.serve x w = u.serveHeld x w y := by
  simp only [State.serve, h.2]

/-- What a tainted completion answers, by the kind (R64). -/
theorem taintedAnswer_of_kind (r : Request) (d : Line) :
    (r.txn.kind = .read → r.taintedAnswer d = .done (.word (d[r.txn.word] &&& byteMask r.txn.lanes))) ∧
    (r.txn.kind = .lineRead →
      r.taintedAnswer d = .done (.line (Vector.ofFn fun j => d[r.txn.word + j]) false)) ∧
    ((r.txn.kind = .write ∨ r.txn.kind = .lineWrite ∨ r.txn.kind = .reserveRead) →
      r.taintedAnswer d = .retry .lineBusy) ∧
    ((r.txn.kind = .releaseWrite ∨ r.txn.kind = .release) → r.taintedAnswer d = .late) := by
  refine ⟨fun hk => ?_, fun hk => ?_, ?_, ?_⟩
  · rw [Request.taintedAnswer, hk]
    rfl
  · rw [Request.taintedAnswer, hk]
    rfl
  · rintro (hk | hk | hk) <;> rw [Request.taintedAnswer, hk]
  · rintro (hk | hk) <;> rw [Request.taintedAnswer, hk]

end Fills

/-- Settles O36: the last word joins the fill, which completes by its taint; a hit is served alike. -/
theorem ackCompletesFill : Obligations.AckCompletesFill := by
  unfold Obligations.AckCompletesFill
  refine ⟨fun data s op q now timer gathered kept i f h hk hf => ?_, fun s k t r w x hr hh => ?_,
    taintedAnswer_of_kind⟩
  · intro regions words got
    have hexec := exec_ack_fill h hk hf data
    refine ⟨fun ht => ?_, fun ht => ?_⟩
    · intro start served
      have hstart : (s.filled regions q i { f with received := words }).setEntry (setOf f.line) f.way
          (.clean { f with received := words }.installed) = start := rfl
      have hinstalled := filled_installed (f := { f with received := words }) s regions q i ht
      rw [hstart] at hinstalled
      rw [hexec, hinstalled, setSlot_kick]
      rfl
    · have htainted := filled_tainted (f := { f with received := words }) s regions q i ht
      exact hexec.trans (congrArg Host.Outcome.next htainted)
  · have htaken : (s.taken k).hits t.line w x := hh
    rw [exec_hits hr hh, serve_of_hits (x := requestOf k t r) htaken]

/-! ### ERR (R141, R196) -/

section Err

variable {s : State} {op : Operation} {q : List Operation} {now : Transfer} {timer : Nat} {rest : List Transfer}
  {gathered : Word} {kept : List Word}

/-- An ERR takes the head off the queue and hands its failure on. -/
theorem exec_err (h : s.underWay op q now timer rest gathered kept) (withAck : Bool) :
    exec (.err withAck) s = .next (((s.headLeft (s.withCount now.region 0) q).handError op).kick) := by
  obtain ⟨hpin, hq, hphase⟩ := h
  have hpresents : s.dev.phase.presents = true := by rw [hphase]; rfl
  refine (happen_of (f := State.errored) hpin hpresents).trans (congrArg _ ?_)
  simp only [State.errored, State.quiet_dev, hphase, hq]
  rw [popHead_eq hq]

end Err

/-- A port operation is a PORT_READ or PORT_WRITE of its port. -/
theorem kind_of_isOfPort {op : Operation} {k : Port} (h : op.isOfPort k) :
    op.kind = .portRead k ∨ ∃ wt, op.kind = .portWrite k wt := by
  obtain h | h | h := h
  · exact .inl h
  · exact .inr ⟨true, h⟩
  · exact .inr ⟨false, h⟩

/-- Settles O37, by the kind of the head. -/
theorem errEndsOperation : Obligations.ErrEndsOperation := by
  unfold Obligations.ErrEndsOperation
  intro withAck s op q now timer rest gathered kept h regions
  refine ⟨fun i f hk hf => ?_, fun p e hk he => ?_, fun k hk => ?_, fun hk => ?_⟩
  all_goals rw [exec_err h]
  · simp only [State.handError, hk]
    exact congrArg _ (headLeft_failFill s regions hf)
  · have hentry : (s.headLeft regions q).drainAt p = some e := he
    simp only [State.handError, hk, State.loseDrain]
    rw [hentry]
    rfl
  · rw [← lostOf_push hk, ← headLeft_failPortOp s regions op k q]
    obtain hk | ⟨wt, hk⟩ := kind_of_isOfPort hk <;> simp only [State.handError, hk] <;> rfl
  · simp only [State.handError, hk]
    refine congrArg _ (headLeft_startProbeTimer s q ?_)
    rw [RegionConfig.probeTime, withCount_cfg]

/-! ### Ready timeouts below the threshold (R142, R197) -/

section Timeout

variable {s : State} {op : Operation} {q : List Operation} {now : Transfer} {timer : Nat} {rest : List Transfer}
  {gathered : Word} {kept : List Word}

/-- Time that elapses changes a region's probe timer alone. -/
theorem elapse_region (s : State) (d : Nat) (r : RegionId) : (s.elapse d).regions[r] = s.regions[r].age d :=
  mapAll_getElem s.regions (Region.age d) r

/-- A ready timer runs out while no running timer has less left, and the time left on it elapses (R197). -/
theorem exec_readyTimeout (h : s.underWay op q now timer rest gathered kept) (hs : s.noneSooner timer) :
    exec .readyTimeout s = .next ((s.elapse timer).quiet.timeoutHead op now) := by
  obtain ⟨hpin, hq, hphase⟩ := h
  have hleft : s.dev.phase.left = some timer := by rw [hphase]; rfl
  have hruns : s.runsOut s.dev.phase.left = true := by rw [hleft, runsOut_iff]; exact hs
  refine (happen_of (f := fun s => (s.elapse (s.dev.phase.left.getD 0)).timedOut) hpin hruns).trans (congrArg _ ?_)
  have hphase' : (s.quiet.elapse timer).dev.phase = .busy now (timer - timer) rest gathered kept := by
    show s.dev.phase.age timer = _
    rw [hphase]
    rfl
  have hqueue : (s.quiet.elapse timer).dev.queue = op :: q := hq
  simp only [State.quiet_dev, hleft, Option.getD_some, State.timedOut, hphase', hqueue]
  rfl

/-- A ready timer does not run out while another has less left. -/
theorem exec_readyTimeout_later (h : s.underWay op q now timer rest gathered kept) (hs : ¬s.noneSooner timer) :
    exec .readyTimeout s = .next s := by
  have hleft : s.dev.phase.left = some timer := by rw [h.2.2]; rfl
  refine happen_not (f := fun s => (s.elapse (s.dev.phase.left.getD 0)).timedOut) ?_
  rwa [hleft, ← Bool.not_eq_true, runsOut_iff]

/-- A timeout crosses the threshold where the count of an ONLINE region reaches it (R142). -/
theorem crosses_iff {g : Region} : g.crosses = true ↔
    g.health = .online ∧ min (g.count + 1) g.cfg.threshold.toNat = g.cfg.threshold.toNat := by
  simp [Region.crosses, Region.countUp]

/-- A timeout below the threshold counts, and ends the head failed. -/
theorem exec_readyTimeout_below (h : s.underWay op q now timer rest gathered kept) (hs : s.noneSooner timer)
    (hc : ¬s.regions[now.region].crosses = true) :
    exec .readyTimeout s = .next ((((s.elapse timer).headLeft
      ((s.elapse timer).withCount now.region s.regions[now.region].countUp) q).handTimeout op false).kick) := by
  have hregion : (s.elapse timer).quiet.regions[now.region] = s.regions[now.region].age timer :=
    elapse_region s timer now.region
  have hqueue : (s.elapse timer).dev.queue = op :: q := h.2.1
  have hbelow : ¬(s.regions[now.region].age timer).crosses = true := hc
  rw [exec_readyTimeout h hs, State.timeoutHead, hregion, if_neg hbelow, popHead_eq hqueue]
  rfl

/-- A drain write is superseded by an entry younger than its own that names its line (R74). -/
theorem superseded_append {p : DrainPlace} {l : LineAddr} {older younger : List DrainEntry} {e : DrainEntry}
    (he : e.place = p) (hold : ∀ x ∈ older, x.place ≠ p) :
    superseded p l (older ++ e :: younger) = younger.any fun y => y.line == l := by
  induction older with
  | nil => rw [List.nil_append, superseded, if_pos he]
  | cons x older ih =>
    obtain ⟨hx, hrest⟩ := List.forall_mem_cons.mp hold
    rw [List.cons_append, superseded, if_neg hx, ih hrest]

/-- A superseded drain write leaves the buffer with its entry (R74). -/
theorem drainTimedOut_superseded {p : DrainPlace} (h : superseded p op.line s.drains = true) (crossed : Bool) :
    s.drainTimedOut op p crossed = s.dropDrain p := if_pos h

/-- Any other is HELD if its region departs, and goes to the tail if not (R74). -/
theorem drainTimedOut_kept {p : DrainPlace} (h : superseded p op.line s.drains = false) (crossed : Bool) :
    s.drainTimedOut op p crossed = if crossed then s.holdDrain p else s.enqueue op :=
  if_neg (by rw [h]; exact Bool.false_ne_true)

end Timeout

/-- Settles O38: the timer runs out before the others, and the head ends by its kind. -/
theorem readyTimeoutBelowThresholdEndsOperation : Obligations.ReadyTimeoutBelowThresholdEndsOperation := by
  unfold Obligations.ReadyTimeoutBelowThresholdEndsOperation
  intro s op q now timer rest gathered kept h
  refine ⟨exec_readyTimeout_later h, ?_⟩
  intro u n regions hs hbelow
  have hexec : exec .readyTimeout s = .next (((u.headLeft regions q).handTimeout op false).kick) :=
    exec_readyTimeout_below h hs fun hc => hbelow (crosses_iff.mp hc)
  refine ⟨fun i f hk hf => ?_, fun p older e younger hk hd he hold => ?_, fun k hk => ?_, fun hk => ?_⟩
  all_goals rw [hexec]
  · simp only [State.handTimeout, hk]
    exact congrArg _ (headLeft_failFill u regions hf)
  · have hsuperseded : superseded p op.line (u.headLeft regions q).drains = younger.any fun y => y.line == op.line := by
      rw [← superseded_append he hold, ← hd]
      rfl
    simp only [State.handTimeout, hk]
    refine ⟨fun hyounger => ?_, fun hnone => ?_⟩
    · rw [drainTimedOut_superseded (by rw [hsuperseded]; simpa using hyounger)]
      exact congrArg _ (headLeft_dropDrain u regions q p)
    · rw [drainTimedOut_kept (by rw [hsuperseded]; simpa using hnone)]
      exact congrArg _ (headLeft_enqueue u regions q op)
  · have hevents := lostOf_push hk .device u.events
    have hfailed := headLeft_failPortOp u regions op k q
    rw [hevents] at hfailed
    refine Eq.trans ?_ (congrArg _ hfailed)
    obtain hk | ⟨wt, hk⟩ := kind_of_isOfPort hk <;> simp only [State.handTimeout, hk]
  · simp only [State.handTimeout, hk]
    refine congrArg _ (headLeft_startProbeTimer u q ?_)
    rw [RegionConfig.probeTime, withCount_cfg, elapse_region]
    rfl

end Sys2Proof.Machine

/-! ## A region's departure

The operations that end as a region goes OFFLINE are handed on one after the other (R144, R147, R149, R153).
`State.failing` says at once what a list of them leaves, block by block; it is the list's fold (`fails_eq`) where no
two of the operations take one place on the queue (R134), but for what is presented on the bus, which depends on
whether the Device Port was IDLE (`fails_phase`). -/

namespace Sys2Proof.Machine

/-- An operation that ends failed, with the cause its transactions are answered and how a write of it is lost. -/
structure Ending where
  op : Operation
  cause : FaultCause
  how : LostHow

/-- The operation that times out ends with cause DEVICE (R65, R147). -/
def Ending.device (op : Operation) : Ending := { op := op, cause := .device, how := .device }

/-- The operations removed with a departure end with cause OFFLINE (R144). -/
def Ending.offline (op : Operation) : Ending := { op := op, cause := .offline, how := .offline }

/-- A failed operation is handed on to the block that owns its source; a drain becomes HELD. -/
def State.fail (s : State) (x : Ending) : State :=
  match x.op.kind with
  | .fill i => s.failFill i x.cause
  | .drain p => s.holdDrain p
  | .portRead k => (s.failPortOp x.op x.cause x.how).releasePlace k
  | .portWrite k _ => (s.failPortOp x.op x.cause x.how).releasePlace k
  | .probe => s

theorem handOn_eq_fail (s : State) (op : Operation) : s.handOn op = s.fail (.offline op) := by
  cases hk : op.kind <;> simp only [State.handOn, State.fail, Ending.offline, hk]

/-- An operation that times out as its region departs, unless it is a superseded drain (R74). -/
theorem handTimeout_eq_fail {s : State} {op : Operation} (hk : op.kind ≠ .probe)
    (hs : ∀ p, op.kind = .drain p → superseded p op.line s.drains = false) :
    s.handTimeout op true = s.fail (.device op) := by
  cases hop : op.kind with
  | drain p =>
    simp only [State.handTimeout, State.fail, Ending.device, hop]
    exact drainTimedOut_kept (hs p hop) true
  | probe => exact absurd hop hk
  | _ => simp only [State.handTimeout, State.fail, Ending.device, hop]

/-! ### What ending operations leave, block by block -/

section Blocks

variable {op : Operation} {ops : List Operation}

theorem vector_ext {α : Type} {n : Nat} {v w : Vector α n} (h : ∀ i : Fin n, v[i] = w[i]) : v = w :=
  Vector.ext fun i hi => h ⟨i, hi⟩

/-- The fill slots after operations end: those of the fills are FREE. -/
def slotsFreed (slots : Vector (Option Fill) 4) (ops : List Operation) : Vector (Option Fill) 4 :=
  Vector.ofFn fun i => if ops.any (fun op => op.kind == .fill i) = true then none else slots[i]

/-- The drain buffer after operations end: the entries whose writes they are become HELD. -/
def drainsHeld (drains : List DrainEntry) (ops : List Operation) : List DrainEntry :=
  drains.map fun e => if ops.any (fun op => op.kind == .drain e.place) = true then { e with held := true } else e

/-- A place whose port's operation has ended: FREE, or ACTIVE with the operation that was parked. -/
def Place.vacated (p : Place) : Place :=
  match p.parked with
  | none => .free
  | some _ => .active

/-- The places after operations end. -/
def placesVacated (places : Vector Place 4) (ops : List Operation) : Vector Place 4 :=
  Vector.ofFn fun k => if ops.any (fun op => op.port? == some k) = true then places[k].vacated else places[k]

/-- The parked operations that join the queue as operations end. -/
def unparked (places : Vector Place 4) (ops : List Operation) : List Operation :=
  ops.filterMap fun op => op.port?.bind fun k => places[k].parked

theorem slotsFreed_getElem (slots : Vector (Option Fill) 4) (ops : List Operation) (i : SlotId) :
    (slotsFreed slots ops)[i] = if ops.any (fun op => op.kind == .fill i) = true then none else slots[i] := by
  simp [slotsFreed]

theorem placesVacated_getElem (places : Vector Place 4) (ops : List Operation) (k : Port) :
    (placesVacated places ops)[k] =
      if ops.any (fun op => op.port? == some k) = true then places[k].vacated else places[k] := by
  simp [placesVacated]

theorem slotsFreed_nil (slots : Vector (Option Fill) 4) : slotsFreed slots [] = slots := by
  simp [slotsFreed]

theorem slotsFreed_cons (slots : Vector (Option Fill) 4) (op : Operation) (ops : List Operation) :
    slotsFreed (slotsFreed slots [op]) ops = slotsFreed slots (op :: ops) := by
  refine vector_ext fun i => ?_
  rw [slotsFreed_getElem, slotsFreed_getElem, slotsFreed_getElem, List.any_cons, List.any_cons, List.any_nil,
    Bool.or_false, Bool.or_comm]
  cases ops.any fun op => op.kind == .fill i
  · rfl
  · rfl

theorem slotsFreed_of_fill (slots : Vector (Option Fill) 4) {i : SlotId} (hk : op.kind = .fill i) :
    slotsFreed slots [op] = setAt slots i none := by
  refine vector_ext fun j => ?_
  rw [slotsFreed_getElem, setAt_getElem, List.any_cons, List.any_nil, Bool.or_false, hk]
  simp

theorem slotsFreed_of_ne (slots : Vector (Option Fill) 4) (hk : ∀ i, op.kind ≠ .fill i) :
    slotsFreed slots [op] = slots := by
  simp [slotsFreed, hk]

theorem drainsHeld_nil (drains : List DrainEntry) : drainsHeld drains [] = drains := by
  simp [drainsHeld]

theorem drainsHeld_cons (drains : List DrainEntry) (op : Operation) (ops : List Operation) :
    drainsHeld (drainsHeld drains [op]) ops = drainsHeld drains (op :: ops) := by
  rw [drainsHeld, drainsHeld, List.map_map, drainsHeld]
  refine List.map_congr_left fun e _ => ?_
  simp only [Function.comp_apply, List.any_cons, List.any_nil, Bool.or_false, Bool.or_eq_true]
  by_cases hop : (op.kind == .drain e.place) = true <;> simp [hop]

theorem drainsHeld_of_drain (s : State) {p : DrainPlace} (hk : op.kind = .drain p) :
    drainsHeld s.drains [op] = (s.holdDrain p).drains := by
  refine List.map_congr_left fun e _ => ?_
  rw [List.any_cons, List.any_nil, Bool.or_false, hk]
  by_cases he : e.place = p
  · rw [if_pos (by simp [he]), if_pos he]
  · rw [if_neg (by simpa using Ne.symm he), if_neg he]

theorem drainsHeld_of_ne (drains : List DrainEntry) (hk : ∀ p, op.kind ≠ .drain p) :
    drainsHeld drains [op] = drains := by
  simp [drainsHeld, hk]

theorem placesVacated_nil (places : Vector Place 4) : placesVacated places [] = places := by
  simp [placesVacated]

theorem placesVacated_of_port (places : Vector Place 4) {k : Port} (hk : op.port? = some k) :
    placesVacated places [op] = setAt places k places[k].vacated := by
  refine vector_ext fun j => ?_
  rw [placesVacated_getElem, setAt_getElem, List.any_cons, List.any_nil, Bool.or_false, hk]
  by_cases hkj : k = j
  · rw [if_pos (by simp [hkj]), if_pos hkj, hkj]
  · rw [if_neg (by simpa using hkj), if_neg hkj]

theorem placesVacated_of_none (places : Vector Place 4) (hk : op.port? = none) :
    placesVacated places [op] = places := by
  simp [placesVacated, hk]

theorem unparked_of_none (places : Vector Place 4) (hk : op.port? = none) : unparked places [op] = [] := by
  simp [unparked, hk]

theorem unparked_of_port (places : Vector Place 4) {k : Port} (hk : op.port? = some k) :
    unparked places [op] = places[k].parked.toList := by
  simp [-Fin.getElem_fin, unparked, hk, List.filterMap_cons]
  cases places[k].parked <;> rfl

theorem fillsOf_of_fill (slots : Vector (Option Fill) 4) {i : SlotId} (hk : op.kind = .fill i) :
    fillsOf slots [op] = slots[i].toList := by
  cases hs : slots[i] <;> simp [-Fin.getElem_fin, fillsOf, hk, hs]

theorem fillsOf_of_ne (slots : Vector (Option Fill) 4) (hk : ∀ i, op.kind ≠ .fill i) : fillsOf slots [op] = [] := by
  cases hop : op.kind with
  | fill i => exact absurd hop (hk i)
  | _ => simp [fillsOf, hop]

/-! An operation that ends has no part in what the others, at other places on the queue, meet. -/

variable (h : placesDiffer (op :: ops))
include h

theorem placesDiffer.fill_ne {x : Operation} (hx : x ∈ ops) {i : SlotId} (hk : x.kind = .fill i) :
    op.kind ≠ .fill i := fun hop =>
  (placesDiffer_cons.mp h).1 x hx ((place_eq_fill.mpr hk).trans (place_eq_fill.mpr hop).symm)

theorem placesDiffer.port_ne {x : Operation} (hx : x ∈ ops) {k : Port} (hk : x.port? = some k) :
    op.port? ≠ some k := fun hop =>
  (placesDiffer_cons.mp h).1 x hx ((place_eq_port.mpr hk).trans (place_eq_port.mpr hop).symm)

theorem slotsFreed_fill (slots : Vector (Option Fill) 4) {x : Operation} (hx : x ∈ ops) {i : SlotId}
    (hk : x.kind = .fill i) : (slotsFreed slots [op])[i] = slots[i] := by
  rw [slotsFreed_getElem, List.any_cons, List.any_nil, Bool.or_false]
  exact if_neg (by simpa using h.fill_ne hx hk)

theorem placesVacated_port (places : Vector Place 4) {x : Operation} (hx : x ∈ ops) {k : Port}
    (hk : x.port? = some k) : (placesVacated places [op])[k] = places[k] := by
  rw [placesVacated_getElem, List.any_cons, List.any_nil, Bool.or_false]
  exact if_neg (by simpa using h.port_ne hx hk)

theorem failureAnswers_freed (slots : Vector (Option Fill) 4) (c : FaultCause) {x : Operation} (hx : x ∈ ops) :
    failureAnswers (slotsFreed slots [op]) c x = failureAnswers slots c x := by
  cases hk : x.kind with
  | fill i => simp only [failureAnswers, hk, slotsFreed_fill h slots hx hk]
  | _ => simp only [failureAnswers, hk]

theorem fillsOf_freed (slots : Vector (Option Fill) 4) : fillsOf (slotsFreed slots [op]) ops = fillsOf slots ops := by
  refine List.filterMap_congr fun x hx => ?_
  cases hk : x.kind with
  | fill i => exact slotsFreed_fill h slots hx hk
  | _ => rfl

theorem unparked_vacated (places : Vector Place 4) :
    unparked (placesVacated places [op]) ops = unparked places ops := by
  refine List.filterMap_congr fun x hx => ?_
  cases hk : x.port? with
  | none => rfl
  | some k => exact congrArg Place.parked (placesVacated_port h places hx hk)

theorem placesVacated_cons (places : Vector Place 4) :
    placesVacated (placesVacated places [op]) ops = placesVacated places (op :: ops) := by
  refine vector_ext fun k => ?_
  rw [placesVacated_getElem, placesVacated_getElem places (op :: ops), List.any_cons]
  by_cases hany : (ops.any fun x => x.port? == some k) = true
  · obtain ⟨x, hx, hk⟩ := List.any_eq_true.mp hany
    rw [if_pos hany, if_pos (by rw [hany, Bool.or_true]), placesVacated_port h places hx (beq_iff_eq.mp hk)]
  · rw [if_neg hany, placesVacated_getElem, List.any_cons, List.any_nil, Bool.or_false,
      Bool.eq_false_of_not_eq_true hany, Bool.or_false]

end Blocks

/-! ### All that a list of ending operations leaves -/

section Failing

variable {s : State}

/-- The state after the operations of `L` have ended, the bus left as it is. -/
def State.failing (s : State) (L : List Ending) : State :=
  { s.giving (L.flatMap fun x => failureAnswers s.slots x.cause x.op) with
    slots := slotsFreed s.slots (L.map Ending.op)
    dir := waysFreed s.dir (fillsOf s.slots (L.map Ending.op))
    sweep := (fillsOf s.slots (L.map Ending.op)).foldl (fun w f => w.wayChanged (setOf f.line) f.way) s.sweep
    drains := drainsHeld s.drains (L.map Ending.op)
    events := (L.flatMap fun x => lostOf x.how x.op).foldl EventQueue.push s.events
    dev := { s.dev with
      queue := s.dev.queue ++ unparked s.dev.places (L.map Ending.op)
      places := placesVacated s.dev.places (L.map Ending.op) } }

theorem failing_nil (s : State) : s.failing [] = s := by
  have hqueue : s.dev.queue ++ unparked s.dev.places [] = s.dev.queue := List.append_nil _
  simp only [State.failing, List.flatMap_nil, List.map_nil, giving_nil, slotsFreed_nil, drainsHeld_nil,
    placesVacated_nil, hqueue]
  rfl

/-- The first operation ends, and then the rest. -/
theorem failing_cons {x : Ending} {L : List Ending} (h : placesDiffer ((x :: L).map Ending.op)) :
    (s.failing [x]).failing L = s.failing (x :: L) := by
  have hanswers : (L.flatMap fun y => failureAnswers (slotsFreed s.slots [x.op]) y.cause y.op) =
      L.flatMap fun y => failureAnswers s.slots y.cause y.op :=
    List.flatMap_congr fun y hy => failureAnswers_freed h s.slots y.cause (List.mem_map_of_mem hy)
  have hfills (slots : Vector (Option Fill) 4) : fillsOf slots ((x :: L).map Ending.op) =
      fillsOf slots [x.op] ++ fillsOf slots (L.map Ending.op) := List.filterMap_append (l := [x.op])
  have hunparked : unparked s.dev.places ((x :: L).map Ending.op) =
      unparked s.dev.places [x.op] ++ unparked s.dev.places (L.map Ending.op) := List.filterMap_append (l := [x.op])
  have hresponses : ([x].flatMap fun y => failureAnswers s.slots y.cause y.op) ++
      (L.flatMap fun y => failureAnswers (slotsFreed s.slots [x.op]) y.cause y.op) =
        (x :: L).flatMap fun y => failureAnswers s.slots y.cause y.op := by
    rw [hanswers, ← List.flatMap_append]
    rfl
  have hgiven := (giving_append s _ _).trans (congrArg s.giving hresponses)
  have hevents : (L.flatMap fun y => lostOf y.how y.op).foldl EventQueue.push
      (([x].flatMap fun y => lostOf y.how y.op).foldl EventQueue.push s.events) =
        ((x :: L).flatMap fun y => lostOf y.how y.op).foldl EventQueue.push s.events := by
    rw [← List.foldl_append, ← List.flatMap_append]
    rfl
  have hfreed : fillsOf (slotsFreed s.slots [x.op]) (L.map Ending.op) = fillsOf s.slots (L.map Ending.op) :=
    fillsOf_freed h s.slots
  have hdir : waysFreed (waysFreed s.dir (fillsOf s.slots [x.op]))
      (fillsOf (slotsFreed s.slots [x.op]) (L.map Ending.op)) =
        waysFreed s.dir (fillsOf s.slots ((x :: L).map Ending.op)) := by
    rw [hfills, hfreed]
    exact List.foldl_append.symm
  have hsweep : (fillsOf (slotsFreed s.slots [x.op]) (L.map Ending.op)).foldl
      (fun w f => w.wayChanged (setOf f.line) f.way) ((fillsOf s.slots [x.op]).foldl
        (fun w f => w.wayChanged (setOf f.line) f.way) s.sweep) =
        (fillsOf s.slots ((x :: L).map Ending.op)).foldl (fun w f => w.wayChanged (setOf f.line) f.way) s.sweep := by
    rw [hfills, hfreed, List.foldl_append]
  have hdev : ((s.failing [x]).failing L).dev = (s.failing (x :: L)).dev := by
    have hqueue : s.dev.queue ++ unparked s.dev.places [x.op] ++
        unparked (placesVacated s.dev.places [x.op]) (L.map Ending.op) =
          s.dev.queue ++ unparked s.dev.places ((x :: L).map Ending.op) := by
      rw [unparked_vacated h, hunparked, List.append_assoc]
    exact congrArg₂ (fun queue places => ({ s.dev with queue := queue, places := places } : DevicePort)) hqueue
      (placesVacated_cons h s.dev.places)
  have hports := congrArg State.ports hgiven
  have hout := congrArg State.out hgiven
  apply State.ext
  case ports => exact hports
  case out => exact hout
  case slots => exact slotsFreed_cons s.slots x.op _
  case dir => exact hdir
  case sweep => exact hsweep
  case drains => exact drainsHeld_cons s.drains x.op _
  case events => exact hevents
  case dev => exact hdev
  all_goals rfl

theorem failing_append {L M : List Ending} (h : placesDiffer ((L ++ M).map Ending.op)) :
    (s.failing L).failing M = s.failing (L ++ M) := by
  induction L generalizing s with
  | nil => rw [failing_nil, List.nil_append]
  | cons x L ih =>
    have hrest : placesDiffer ((L ++ M).map Ending.op) := (placesDiffer_cons.mp h).2
    have hleft : placesDiffer ((x :: L).map Ending.op) :=
      List.Nodup.sublist (((List.sublist_append_left (x :: L) M).map Ending.op).map Operation.place) h
    rw [← failing_cons hleft, ih hrest]
    exact failing_cons (L := L ++ M) h

theorem failing_singleton (s : State) (x : Ending) :
    s.failing [x] = { s.giving (failureAnswers s.slots x.cause x.op) with
      slots := slotsFreed s.slots [x.op]
      dir := waysFreed s.dir (fillsOf s.slots [x.op])
      sweep := (fillsOf s.slots [x.op]).foldl (fun w f => w.wayChanged (setOf f.line) f.way) s.sweep
      drains := drainsHeld s.drains [x.op]
      events := (lostOf x.how x.op).foldl EventQueue.push s.events
      dev := { s.dev with
        queue := s.dev.queue ++ unparked s.dev.places [x.op]
        places := placesVacated s.dev.places [x.op] } } := by
  simp only [State.failing, List.flatMap_singleton, List.map_singleton]

/-- An operation that is not a port's leaves the Device Port and the event queue alone. -/
theorem failing_of_port_none {x : Ending} (hk : x.op.port? = none) :
    s.failing [x] = { s.giving (failureAnswers s.slots x.cause x.op) with
      slots := slotsFreed s.slots [x.op]
      dir := waysFreed s.dir (fillsOf s.slots [x.op])
      sweep := (fillsOf s.slots [x.op]).foldl (fun w f => w.wayChanged (setOf f.line) f.way) s.sweep
      drains := drainsHeld s.drains [x.op] } := by
  have hlost : lostOf x.how x.op = [] := by
    cases hop : x.op.kind <;> simp_all [lostOf, Operation.port?]
  rw [failing_singleton, hlost, placesVacated_of_none _ hk, unparked_of_none _ hk, List.append_nil]
  rfl

/-- A fill fails (R65). -/
theorem failing_fill {x : Ending} {i : SlotId} (hk : x.op.kind = .fill i) : s.failing [x] = s.failFill i x.cause := by
  rw [failing_of_port_none (by rw [Operation.port?, hk]), drainsHeld_of_ne _ (by simp [hk]), slotsFreed_of_fill _ hk,
    fillsOf_of_fill _ hk]
  cases hf : s.slots[i] with
  | none =>
    have hslots : setAt s.slots i none = s.slots := by rw [← hf, setAt_self]
    have hanswers : failureAnswers s.slots x.cause x.op = [] := by simp only [failureAnswers, hk, hf]
    rw [failFill_free hf, hslots, hanswers]
    exact giving_nil s
  | some f =>
    have hanswers : failureAnswers s.slots x.cause x.op =
        answersTo (f.requester.toList ++ f.waiters) (.fault x.cause) := by simp only [failureAnswers, hk, hf]
    rw [failFill_eq hf, hanswers]
    rfl

/-- A drain becomes HELD (R74, R75). -/
theorem failing_drain {x : Ending} {p : DrainPlace} (hk : x.op.kind = .drain p) : s.failing [x] = s.holdDrain p := by
  rw [failing_of_port_none (by rw [Operation.port?, hk]), drainsHeld_of_drain s hk, slotsFreed_of_ne _ (by simp [hk]),
    fillsOf_of_ne _ (by simp [hk]), failureAnswers, hk, giving_nil]
  rfl

/-- A probe that is removed leaves nothing. -/
theorem failing_probe {x : Ending} (hk : x.op.kind = .probe) : s.failing [x] = s := by
  rw [failing_of_port_none (probe_port hk), drainsHeld_of_ne _ (by simp [hk]), slotsFreed_of_ne _ (by simp [hk]),
    fillsOf_of_ne _ (by simp [hk]), failureAnswers, hk, giving_nil]
  rfl

/-- A port operation fails, and its place is vacated (R147 to R149). -/
theorem failing_port {x : Ending} {k : Port} (hk : x.op.port? = some k) :
    s.failing [x] = { s.failPortOp x.op x.cause x.how with
      dev := { s.dev with
        queue := s.dev.queue ++ s.dev.places[k].parked.toList
        places := setAt s.dev.places k s.dev.places[k].vacated } } := by
  have hfill : ∀ i, x.op.kind ≠ .fill i := by rintro i hi; simp [Operation.port?, hi] at hk
  have hdrain : ∀ p, x.op.kind ≠ .drain p := by rintro p hp; simp [Operation.port?, hp] at hk
  have hanswers : failureAnswers s.slots x.cause x.op = ownerAnswer x.op (.fault x.cause) := by
    cases hop : x.op.kind <;> simp_all [failureAnswers, Operation.port?]
  rw [failing_singleton, failPortOp_eq, drainsHeld_of_ne _ hdrain, slotsFreed_of_ne _ hfill, fillsOf_of_ne _ hfill,
    placesVacated_of_port _ hk, unparked_of_port _ hk, hanswers]
  rfl

theorem release_queue (d : DevicePort) (regions : Vector Region 8) (k : Port) :
    (d.release regions k).queue = d.queue ++ d.places[k].parked.toList ∧
      (d.release regions k).places = setAt d.places k d.places[k].vacated := by
  cases hp : d.places[k] with
  | free | active =>
    rw [release_unparked regions (by rw [hp]; rfl)]
    exact ⟨(List.append_nil _).symm, rfl⟩
  | orphaned parked =>
    cases parked with
    | none =>
      rw [release_unparked regions (by rw [hp]; rfl)]
      exact ⟨(List.append_nil _).symm, rfl⟩
    | some y =>
      rw [release_parked regions hp]
      exact ⟨join_queue _ regions y, join_places _ regions y⟩

/-- A failed operation that is a port's. -/
theorem fail_port {x : Ending} {k : Port} (hk : x.op.port? = some k) :
    s.fail x = (s.failPortOp x.op x.cause x.how).releasePlace k := by
  cases hop : x.op.kind <;> simp_all [State.fail, Operation.port?]

theorem fail_port_none {x : Ending} (hk : x.op.port? = none) : s.fail x = s.failing [x] := by
  cases hop : x.op.kind with
  | fill i => rw [failing_fill hop, State.fail, hop]
  | drain p => rw [failing_drain hop, State.fail, hop]
  | portRead k | portWrite k wt => simp [Operation.port?, hop] at hk
  | probe => rw [failing_probe hop, State.fail, hop]

theorem fail_dev (s : State) (x : Ending) : (s.fail x).dev = match x.op.port? with
    | none => s.dev
    | some k => s.dev.release s.regions k := by
  cases hk : x.op.port? with
  | none => rw [fail_port_none hk, failing_of_port_none hk]; rfl
  | some k => rw [fail_port hk, failPortOp_eq]; rfl

/-- One operation that ends: the blocks that it leaves are those of `State.failing`. -/
theorem fail_eq (s : State) (x : Ending) : s.fail x = (s.failing [x]).setPhase (s.fail x).dev.phase := by
  cases hk : x.op.port? with
  | none =>
    rw [fail_port_none hk]
    rfl
  | some k =>
    obtain ⟨hqueue, hplaces⟩ := release_queue s.dev s.regions k
    have hdev := fail_dev s x
    rw [hk] at hdev
    have hblocks : s.dev.release s.regions k = { s.dev with
        phase := (s.dev.release s.regions k).phase
        queue := s.dev.queue ++ s.dev.places[k].parked.toList
        places := setAt s.dev.places k s.dev.places[k].vacated } := by
      rw [← hqueue, ← hplaces]
    rw [hdev, fail_port hk, failing_port hk, failPortOp_eq]
    exact congrArg (fun dev => { s.giving (ownerAnswer x.op (.fault x.cause)) with
      events := (lostOf x.how x.op).foldl EventQueue.push s.events
      dev := dev }) hblocks

/-- Operations that end one after the other. -/
theorem fails_eq {L : List Ending} (h : placesDiffer (L.map Ending.op)) (s : State) :
    L.foldl State.fail s = (s.failing L).setPhase (L.foldl State.fail s).dev.phase := by
  induction L generalizing s with
  | nil => rw [failing_nil]; rfl
  | cons x L ih =>
    have hrest : placesDiffer (L.map Ending.op) := (placesDiffer_cons.mp h).2
    calc L.foldl State.fail (s.fail x)
        = ((s.fail x).failing L).setPhase (L.foldl State.fail (s.fail x)).dev.phase := ih hrest (s.fail x)
      _ = (((s.failing [x]).setPhase (s.fail x).dev.phase).failing L).setPhase
            (L.foldl State.fail (s.fail x)).dev.phase :=
          congrArg (fun u : State => (u.failing L).setPhase (L.foldl State.fail (s.fail x)).dev.phase) (fail_eq s x)
      _ = ((s.failing [x]).failing L).setPhase (L.foldl State.fail (s.fail x)).dev.phase := rfl
      _ = _ := by rw [failing_cons h]; rfl

/-! ### What is presented on the bus meanwhile (R136) -/

theorem DevicePort.begun.release {d : DevicePort} {regions : Vector Region 8} (h : d.begun regions) (k : Port) :
    (d.release regions k).begun regions := by
  unfold DevicePort.release
  split
  · exact (h.withPlaces _).join _
  all_goals exact h.withPlaces _

/-- A transfer that is presented stays so as a place is released. -/
theorem release_phase {d : DevicePort} (regions : Vector Region 8) (h : d.phase ≠ .idle) (k : Port) :
    (d.release regions k).phase = d.phase := by
  have hjoin (places : Vector Place 4) (op : Operation) :
      (({ d with places := places } : DevicePort).join regions op).phase = d.phase := by
    have hkept : (({ d with places := places } : DevicePort).join regions op) =
        { d with queue := d.queue ++ [op], places := places } := kick_of_ne regions h
    rw [hkept]
  unfold DevicePort.release
  split
  · exact hjoin _ _
  all_goals rfl

/-- Ending operations leave a presented transfer, and make an IDLE Device Port begin with its head at most. -/
theorem fails_phase (L : List Ending) (s : State) :
    (L.foldl State.fail s).regions = s.regions ∧
      (s.dev.begun s.regions → (L.foldl State.fail s).dev.begun s.regions) ∧
      (s.dev.phase ≠ .idle → (L.foldl State.fail s).dev.phase = s.dev.phase) := by
  refine List.foldlRecOn (motive := fun u => u.regions = s.regions ∧ (s.dev.begun s.regions → u.dev.begun s.regions) ∧
    (s.dev.phase ≠ .idle → u.dev.phase = s.dev.phase)) L State.fail ⟨rfl, id, fun _ => rfl⟩ fun u hu x _ => ?_
  obtain ⟨hregions, hbegun, hphase⟩ := hu
  have hfailed : (u.fail x).regions = u.regions := by rw [fail_eq]; rfl
  rw [hfailed, fail_dev, hregions]
  cases x.op.port? with
  | none => exact ⟨rfl, hbegun, hphase⟩
  | some k =>
    refine ⟨rfl, fun h => (hbegun h).release k, fun h => ?_⟩
    exact (release_phase s.regions (by rwa [hphase h]) k).trans (hphase h)

end Failing

/-! ### The region leaves (R144, R149, R153) -/

section Leaving

variable {s : State} {r : RegionId}

/-- The parked operations that fail, handed on one after the other. -/
theorem handOnParked_fold (ops : List Operation) (s : State) : ops.foldl State.handOnParked s =
    { s.giving (ops.flatMap fun op => ownerAnswer op (.fault .offline)) with
      events := (ops.flatMap (lostOf .offline)).foldl EventQueue.push s.events } := by
  induction ops generalizing s with
  | nil => exact (giving_nil s).symm
  | cons op ops ih =>
    have hgiven := giving_append s (ownerAnswer op (.fault .offline))
      (ops.flatMap fun op => ownerAnswer op (.fault .offline))
    rw [List.foldl_cons, ih, State.handOnParked, failPortOp_eq, List.flatMap_cons, List.flatMap_cons,
      List.foldl_append, ← hgiven]
    rfl

theorem unpark_parked (s : State) (r : RegionId) (k : Port) :
    (Place.unpark r s.dev.places[k]).parked = s.parkedBeside r k := by
  unfold State.parkedBeside
  cases s.dev.places[k] with
  | free | active => rfl
  | orphaned parked =>
    cases parked with
    | none => rfl
    | some op =>
      by_cases hop : op.region = r
      · simp [Place.unpark, Place.parked, Operation.ofRegion, hop]
      · simp [Place.unpark, Place.parked, Operation.ofRegion, hop]

theorem unparked_unpark (s : State) (r : RegionId) (ops : List Operation) :
    unparked (mapAll s.dev.places (Place.unpark r)) ops = ops.filterMap fun op => op.port?.bind (s.parkedBeside r) := by
  refine List.filterMap_congr fun op _ => ?_
  cases op.port? with
  | none => rfl
  | some k => exact (congrArg Place.parked (mapAll_getElem _ _ k)).trans (unpark_parked s r k)

/-- The places once the region's parked operations are taken away and its operations have ended. -/
theorem placesVacated_unpark (s : State) (r : RegionId) (ops : List Operation) :
    placesVacated (mapAll s.dev.places (Place.unpark r)) ops = Vector.ofFn (s.placeAfter r ops) := by
  refine vector_ext fun k => ?_
  have hafter : (Vector.ofFn (s.placeAfter r ops))[k] = s.placeAfter r ops k := by simp
  rw [placesVacated_getElem, mapAll_getElem, hafter, State.placeAfter, Place.vacated, unpark_parked]
  refine if_congr Iff.rfl rfl ?_
  rw [← unpark_parked]
  cases s.dev.places[k] with
  | free | active => rfl
  | orphaned parked =>
    cases parked with
    | none => rfl
    | some op => by_cases hop : op.ofRegion r = true <;> simp [Place.unpark, Place.parked, hop]

/-- The operations that end as region `r` leaves: the one that timed out, and those of the region on the queue. -/
def State.leavers (s : State) (r : RegionId) (own : Option Operation) : List Ending :=
  own.toList.map Ending.device ++ (s.dev.queue.filter (Operation.ofRegion r)).map Ending.offline

theorem leavers_op (s : State) (r : RegionId) (own : Option Operation) :
    (s.leavers r own).map Ending.op = own.toList ++ s.dev.queue.filter (Operation.ofRegion r) := by
  have hdevice : Ending.op ∘ Ending.device = id := rfl
  have hoffline : Ending.op ∘ Ending.offline = id := rfl
  rw [State.leavers, List.map_append, List.map_map, List.map_map, hdevice, hoffline, List.map_id, List.map_id]

/-- The work of region `r` handed on, but for the region's entry, the last record and what is presented. -/
def State.leaving (s : State) (r : RegionId) (own : Option Operation) : State :=
  let u := (s.stripRegion r).failing (s.leavers r own)
  { u.giving ((s.dev.parkedOf r).flatMap fun op => ownerAnswer op (.fault .offline)) with
    events := ((s.dev.parkedOf r).flatMap (lostOf .offline)).foldl EventQueue.push u.events }

theorem leaving_eq (hout : s.out = outputs []) (own : Option Operation) :
    s.leaving r own = (s.handedOn r own s.dev.queue).setPhase
      (stopped (Operation.ofRegion r) s.dev.phase s.dev.queue) := by
  have hanswers : ((s.leavers r own).flatMap fun x => failureAnswers s.slots x.cause x.op) =
      own.toList.flatMap (failureAnswers s.slots .device) ++
        (s.dev.queue.filter (Operation.ofRegion r)).flatMap (failureAnswers s.slots .offline) := by
    rw [State.leavers, List.flatMap_append, List.flatMap_map, List.flatMap_map]
    rfl
  have hlost : ((s.leavers r own).flatMap fun x => lostOf x.how x.op) =
      own.toList.flatMap (lostOf .device) ++
        (s.dev.queue.filter (Operation.ofRegion r)).flatMap (lostOf .offline) := by
    rw [State.leavers, List.flatMap_append, List.flatMap_map, List.flatMap_map]
    rfl
  have hunfolded : s.leaving r own =
      { ((s.stripRegion r).giving ((s.leavers r own).flatMap fun x => failureAnswers s.slots x.cause x.op)).giving
          ((s.dev.parkedOf r).flatMap fun op => ownerAnswer op (.fault .offline)) with
        slots := slotsFreed s.slots ((s.leavers r own).map Ending.op)
        dir := waysFreed s.dir (fillsOf s.slots ((s.leavers r own).map Ending.op))
        sweep := (fillsOf s.slots ((s.leavers r own).map Ending.op)).foldl
          (fun w f => w.wayChanged (setOf f.line) f.way) s.sweep
        drains := drainsHeld s.drains ((s.leavers r own).map Ending.op)
        events := ((s.dev.parkedOf r).flatMap (lostOf .offline)).foldl EventQueue.push
          (((s.leavers r own).flatMap fun x => lostOf x.how x.op).foldl EventQueue.push s.events)
        dev := { s.dev with
          phase := stopped (Operation.ofRegion r) s.dev.phase s.dev.queue
          queue := (s.dev.queue.filter fun op => !op.ofRegion r) ++
            unparked (mapAll s.dev.places (Place.unpark r)) ((s.leavers r own).map Ending.op)
          places := placesVacated (mapAll s.dev.places (Place.unpark r)) ((s.leavers r own).map Ending.op) } } := rfl
  have hquiet : (s.stripRegion r).out = outputs [] := hout
  rw [hunfolded, hanswers, hlost, leavers_op, unparked_unpark, placesVacated_unpark, giving_append, giving_quiet hquiet,
    ← List.foldl_append]
  rfl

/-- What the Device Port presents as the operations end has no part in what it presents once it turns to its head. -/
theorem kick_after_fails {d : DevicePort} {regions regions' : Vector Region 8} {p : DevPhase}
    (hcfg : ∀ x : RegionId, regions'[x].cfg = regions[x].cfg)
    (hbegun : d.phase = .idle → ({ d with phase := p } : DevicePort).begun regions)
    (hkept : d.phase ≠ .idle → p = d.phase) :
    ({ d with phase := p } : DevicePort).kick regions' = d.kick regions' := by
  by_cases hd : d.phase = .idle
  · rw [(hbegun hd).kick_eq hcfg, kick_idle regions' hd]
    rfl
  · rw [hkept hd]

theorem markOffline_cfg (s : State) (r x : RegionId) : (s.markOffline r).regions[x].cfg = s.regions[x].cfg := by
  have hmarked : (s.markOffline r).regions = setAt s.regions r { s.regions[r] with health := .offline } := rfl
  rw [hmarked, setAt_getElem]
  split
  · next hrx => rw [hrx]
  · rfl

theorem startProbeTimer_cfg (s : State) (r x : RegionId) : (s.startProbeTimer r).regions[x].cfg = s.regions[x].cfg := by
  have hstarted : (s.startProbeTimer r).regions =
      setAt s.regions r { s.regions[r] with probeTimer := some s.regions[r].cfg.probeTime } := rfl
  rw [hstarted, setAt_getElem]
  split
  · next hrx => rw [hrx]
  · rfl

theorem DevicePort.begun.congr {d : DevicePort} {regions regions' : Vector Region 8} (h : d.begun regions)
    (hcfg : ∀ x : RegionId, regions'[x].cfg = regions[x].cfg) : d.begun regions' :=
  h.imp_right fun ⟨hne, hd⟩ => ⟨hne, hd.trans (presentHead_congr hcfg d.queue).symm⟩

/-- Operations end, the region is marked, and further ones end: the mark has no part in how they end. -/
theorem fails_marked {L M : List Ending} (h : placesDiffer ((L ++ M).map Ending.op)) (s : State) (r : RegionId) :
    ∃ p : DevPhase,
      M.foldl State.fail ((L.foldl State.fail s).markOffline r) = ((s.failing (L ++ M)).setPhase p).markOffline r ∧
      (s.dev.phase = .idle → ({ (s.failing (L ++ M)).dev with phase := p } : DevicePort).begun s.regions) ∧
      (s.dev.phase ≠ .idle → p = s.dev.phase) := by
  have hL : placesDiffer (L.map Ending.op) :=
    List.Nodup.sublist (((List.sublist_append_left L M).map Ending.op).map Operation.place) h
  have hM : placesDiffer (M.map Ending.op) :=
    List.Nodup.sublist (((List.sublist_append_right L M).map Ending.op).map Operation.place) h
  obtain ⟨hregions, hbegun, hkept⟩ := fails_phase L s
  have hfirst := fails_eq hL s
  generalize L.foldl State.fail s = u at hregions hbegun hkept hfirst ⊢
  obtain ⟨-, hbegun', hkept'⟩ := fails_phase M (u.markOffline r)
  have hthen := fails_eq hM (u.markOffline r)
  generalize M.foldl State.fail (u.markOffline r) = v at hbegun' hkept' hthen ⊢
  have hboth : v = ((s.failing (L ++ M)).setPhase v.dev.phase).markOffline r :=
    calc v = ((u.markOffline r).failing M).setPhase v.dev.phase := hthen
      _ = ((((s.failing L).setPhase u.dev.phase).markOffline r).failing M).setPhase v.dev.phase :=
          congrArg (fun w : State => ((w.markOffline r).failing M).setPhase v.dev.phase) hfirst
      _ = (((s.failing L).failing M).setPhase v.dev.phase).markOffline r := rfl
      _ = _ := by rw [failing_append h]
  have hcfg (x : RegionId) : (u.markOffline r).regions[x].cfg = s.regions[x].cfg :=
    (markOffline_cfg u r x).trans (by rw [hregions])
  refine ⟨v.dev.phase, hboth, fun hidle => ?_, fun hbusy => ?_⟩
  · have hv : v.dev.begun s.regions :=
      (hbegun' ((hbegun (.inl hidle)).congr fun x => (hcfg x).trans rfl)).congr fun x => (hcfg x).symm
    exact (congrArg (fun w : State => w.dev.begun s.regions) hboth).mp hv
  · exact (hkept' (by rw [show (u.markOffline r).dev.phase = u.dev.phase from rfl, hkept hbusy]; exact hbusy)).trans
      (hkept hbusy)

/-- The region's entry, its probe timer and the last record as region `r` goes OFFLINE (R153). -/
def State.departed (s : State) (r : RegionId) (e : Event) : State := ((s.markOffline r).record e).startProbeTimer r

theorem departed_cfg (s : State) (r : RegionId) (e : Event) (x : RegionId) :
    (s.departed r e).regions[x].cfg = s.regions[x].cfg :=
  (startProbeTimer_cfg _ r x).trans (markOffline_cfg s r x)

theorem departed_eq (s : State) (r : RegionId) (e : Event) : s.departed r e = { s with
    regions := setAt s.regions r { s.regions[r] with
      health := .offline, probeTimer := some (s.regions[r].cfg.probeInterval.toNat * 10) }
    events := s.events.push e } := by
  have hmarked : (setAt s.regions r { s.regions[r] with health := .offline })[r] =
      { s.regions[r] with health := .offline } := setAt_getElem_self _ _ _
  simp only [State.departed, State.startProbeTimer, State.record, State.markOffline, State.setRegion, hmarked,
    setAt_setAt, RegionConfig.probeTime]

/-- A region goes OFFLINE: the operation that timed out and the region's operations on the queue end, its parked ones
after them. -/
theorem goOffline_leaving {own : Option Operation} (h : placesDiffer ((s.leavers r own).map Ending.op)) (e : Event) :
    s.goOffline r (fun u => (own.toList.map Ending.device).foldl State.fail u) e =
      ((s.leaving r own).departed r e).kick := by
  obtain ⟨p, hended, hbegun, hkept⟩ := fails_marked h (s.stripRegion r) r
  have hhand : State.handOn = fun u op => u.fail (.offline op) := funext₂ handOn_eq_fail
  have hall : (((own.toList.map Ending.device).foldl State.fail (s.stripRegion r)).markOffline r).handOnAll
      (s.dev.queue.filter (Operation.ofRegion r)) (s.dev.parkedOf r) =
        ((s.leaving r own).setPhase p).markOffline r := by
    rw [State.handOnAll, hhand, ← List.foldl_map (f := Ending.offline) (g := State.fail), hended, handOnParked_fold]
    rfl
  have hkick : ({ (s.leaving r own).dev with phase := p } : DevicePort).kick ((s.leaving r own).departed r e).regions =
      (s.leaving r own).dev.kick ((s.leaving r own).departed r e).regions :=
    kick_after_fails (departed_cfg (s.leaving r own) r e) hbegun hkept
  rw [State.goOffline, hall]
  exact congrArg (fun dev : DevicePort => { (s.leaving r own).departed r e with dev := dev }) hkick

/-- A region goes OFFLINE: its work is handed on, and the Device Port turns to its head if it is IDLE then. -/
theorem goOffline_eq {own : Option Operation} (hout : s.out = outputs [])
    (h : placesDiffer (own.toList ++ s.dev.queue)) (e : Event) :
    s.goOffline r (fun u => (own.toList.map Ending.device).foldl State.fail u) e =
      (((s.handedOn r own s.dev.queue).setPhase
        (stopped (Operation.ofRegion r) s.dev.phase s.dev.queue)).departed r e).kick := by
  have hleavers : placesDiffer ((s.leavers r own).map Ending.op) := by
    rw [leavers_op]
    exact List.Nodup.sublist ((List.filter_sublist.append_left _).map Operation.place) h
  rw [goOffline_leaving hleavers, leaving_eq hout]

/-! ### A timeout takes the region OFFLINE (R142) -/

section Timeout

variable {op : Operation} {q : List Operation} {now : Transfer} {timer : Nat} {rest : List Transfer}
  {gathered : Word} {kept : List Word}

/-- A drain is superseded where its entry stands before one of its line (R74). -/
theorem supersedes_iff (s : State) (op : Operation) :
    s.supersedes op ↔ ∃ p, op.kind = .drain p ∧ superseded p op.line s.drains = true := by
  have hsplit (p : DrainPlace) (l : LineAddr) (drains : List DrainEntry) (h : superseded p l drains = true) :
      ∃ older e younger, drains = older ++ e :: younger ∧ e.place = p ∧ (∀ x ∈ older, x.place ≠ p) ∧
        ∃ y ∈ younger, y.line = l := by
    induction drains with
    | nil => simp [superseded] at h
    | cons x xs ih =>
      rw [superseded] at h
      split at h
      · next hx => exact ⟨[], x, xs, rfl, hx, by simp, by simpa using h⟩
      · next hx =>
        obtain ⟨older, e, younger, rfl, he, hold, hy⟩ := ih h
        exact ⟨x :: older, e, younger, rfl, he, List.forall_mem_cons.mpr ⟨hx, hold⟩, hy⟩
  constructor
  · rintro ⟨p, older, e, younger, hk, hd, he, hold, hy⟩
    exact ⟨p, hk, by rw [hd, superseded_append he hold]; simpa using hy⟩
  · rintro ⟨p, hk, hp⟩
    obtain ⟨older, e, younger, hd, he, hold, hy⟩ := hsplit p op.line s.drains hp
    exact ⟨p, older, e, younger, hk, hd, he, hold, hy⟩

/-- A timeout that brings an ONLINE region's count to the threshold. -/
theorem exec_readyTimeout_crossing (h : s.underWay op q now timer rest gathered kept) (hs : s.noneSooner timer)
    (ho : s.regions[now.region].health = .online)
    (hc : s.regions[now.region].cfg.threshold.toNat ≤ s.regions[now.region].count + 1) :
    exec .readyTimeout s = .next (((s.elapse timer).headLeft ((s.elapse timer).withCount now.region
      s.regions[now.region].cfg.threshold.toNat) q).goOffline now.region (fun s => s.handTimeout op true)
        (.regionOfflineTimeout now.region op.line)) := by
  have hcount : s.regions[now.region].countUp = s.regions[now.region].cfg.threshold.toNat := Nat.min_eq_right hc
  have hregion : (s.elapse timer).quiet.regions[now.region] = s.regions[now.region].age timer :=
    elapse_region s timer now.region
  have hqueue : (s.elapse timer).dev.queue = op :: q := h.2.1
  have hcrosses : (s.regions[now.region].age timer).crosses = true := crosses_iff.mpr ⟨ho, hcount⟩
  have haged : (s.regions[now.region].age timer).countUp = s.regions[now.region].cfg.threshold.toNat := hcount
  rw [exec_readyTimeout h hs, State.timeoutHead, hregion, if_pos hcrosses, popHead_eq hqueue, haged]

/-- The region's entry after a timeout that crosses the threshold. -/
theorem withCount_offline (u : State) (r : RegionId) (n t : Nat) :
    setAt (u.withCount r n) r { (u.withCount r n)[r] with health := .offline, probeTimer := some t } =
      setAt u.regions r { u.regions[r] with health := .offline, count := n, probeTimer := some t } := by
  have hcounted : (u.withCount r n)[r] = { u.regions[r] with count := n } := setAt_getElem_self u.regions r _
  rw [hcounted, State.withCount, setAt_setAt]

/-- A region goes OFFLINE once the head has left. -/
theorem headLeft_goOffline (u : State) (r : RegionId) (n : Nat) {own : Option Operation}
    (h : placesDiffer (own.toList ++ q)) (e : Event) (regions : Vector Region 8)
    (hregions : regions = setAt u.regions r { u.regions[r] with
      health := .offline, count := n, probeTimer := some (u.regions[r].cfg.probeInterval.toNat * 10) }) :
    (u.headLeft (u.withCount r n) q).goOffline r (fun u => (own.toList.map Ending.device).foldl State.fail u) e =
      { u.handedOn r own q with
        regions := regions
        events := (u.handedOn r own q).events.push e
        dev := (u.handedOn r own q).dev.turnTo regions (u.handedOn r own q).dev.queue } := by
  have hentry : setAt (u.withCount r n) r { (u.withCount r n)[r] with
      health := .offline, probeTimer := some ((u.withCount r n)[r].cfg.probeInterval.toNat * 10) } = regions := by
    rw [withCount_offline, withCount_cfg, hregions]
  rw [goOffline_eq (s := u.headLeft (u.withCount r n) q) rfl h, departed_eq]
  exact congrArg (fun regions => { u.handedOn r own q with
    regions := regions
    events := (u.handedOn r own q).events.push e
    dev := (u.handedOn r own q).dev.turnTo regions (u.handedOn r own q).dev.queue }) hentry

/-- What is done before the region is marked is done at the same drain buffer. -/
theorem goOffline_congr {first first' : State → State} {drains : List DrainEntry} (hs : s.drains = drains)
    (h : ∀ w : State, w.drains = drains → first w = first' w) (e : Event) :
    s.goOffline r first e = s.goOffline r first' e := by
  rw [State.goOffline, h (s.stripRegion r) hs, State.goOffline]

/-- The drain buffer without the entry whose write the operation is. -/
theorem drains_without {p : DrainPlace} (hk : op.kind = .drain p) (drains : List DrainEntry) :
    (drains.filter fun e => op.kind != .drain e.place) = drains.filter fun e => e.place != p := by
  refine List.filter_congr fun e _ => ?_
  rw [hk, bne_comm (a := e.place)]
  exact Bool.eq_iff_iff.mpr (by simp)

/-- An entry that leaves the buffer as its region goes OFFLINE may leave it before. -/
theorem goOffline_dropDrain (s : State) (r : RegionId) (p : DrainPlace) (e : Event) :
    s.goOffline r (fun u => u.dropDrain p) e = (s.dropDrain p).goOffline r id e := rfl

end Timeout

/-! ### FORCE_OFFLINE (R163) -/

section Force

variable {k : Port} {v : Word}

/-- FORCE_OFFLINE acts by the region's state. -/
theorem exec_forceOffline (h : s.writes k .regionCmd v) (hr : r.val = (v.extractLsb' 0 3).toNat)
    (hv : v.extractLsb' 8 3 = 5) :
    regionCmdRegion v = r ∧ exec .forceOffline s = .next ((s.taken k).forceOffline k v) :=
  ⟨Fin.ext hr.symm, takeWrite_of (effect := State.forceOffline) h rfl (beq_iff_eq.mpr hv)⟩

/-- What the Device Port presents after FORCE_OFFLINE. -/
theorem stopped_kick (d d' : DevicePort) (regions : Vector Region 8) (r : RegionId) :
    ({ d' with phase := stopped (Operation.ofRegion r) d.phase d.queue } : DevicePort).kick regions =
      { d' with phase := match d.phase, d.queue with
        | .busy now timer rest gathered kept, op :: _ =>
          if op.region = r then .clearing now timer else .busy now timer rest gathered kept
        | .busy now timer rest gathered kept, [] => .busy now timer rest gathered kept
        | .clearing orphan timer, _ => .clearing orphan timer
        | .idle, _ => presentHead regions d'.queue } := by
  cases d.phase with
  | idle => rfl
  | clearing orphan timer => rfl
  | busy now timer rest gathered kept =>
    cases d.queue with
    | nil => rfl
    | cons op q => by_cases hop : op.region = r <;> simp [stopped, Operation.ofRegion, DevicePort.kick, hop]

end Force

end Leaving

/-- Settles O39: the region's operations, at places of their own, end one by one as `State.failing` says. -/
theorem regionGoingOfflineHandsOnItsWork : Obligations.RegionGoingOfflineHandsOnItsWork := by
  unfold Obligations.RegionGoingOfflineHandsOnItsWork
  refine ⟨fun s op q now timer rest gathered kept h hs hd hprobe => ?_, fun s k v r hw hr hv => ?_⟩
  · intro r u ho hc regions gone
    have hall : placesDiffer (op :: q) := h.2.1 ▸ hd
    have hexec := exec_readyTimeout_crossing h hs ho hc
    have haged : u.regions[r] = s.regions[r].age timer := elapse_region s timer r
    have hregions : regions = setAt u.regions r { u.regions[r] with
        health := .offline
        count := s.regions[r].cfg.threshold.toNat
        probeTimer := some (u.regions[r].cfg.probeInterval.toNat * 10) } := by
      rw [show u.regions[r].cfg = s.regions[r].cfg by rw [haged]; rfl]
    rw [supersedes_iff]
    refine ⟨fun hkept => ?_, fun ⟨p, hk, hp⟩ => ?_⟩
    · have hfirst (w : State) (hw : w.drains = s.drains) : w.handTimeout op true = w.fail (.device op) :=
        handTimeout_eq_fail hprobe fun p hk => Bool.eq_false_of_not_eq_true fun hp => hkept ⟨p, hk, hw ▸ hp⟩
      rw [hexec, goOffline_congr (first' := fun w => ((some op).toList.map Ending.device).foldl State.fail w) (by rfl)
        hfirst]
      exact congrArg _ (headLeft_goOffline u r _ (own := some op) hall _ regions hregions)
    · have hfirst (w : State) (hw : w.drains = s.drains) : w.handTimeout op true = w.dropDrain p := by
        simp only [State.handTimeout, hk]
        exact drainTimedOut_superseded (hw.symm ▸ hp) true
      rw [hexec, goOffline_congr (first' := fun w => w.dropDrain p) (by rfl) hfirst, goOffline_dropDrain,
        drains_without hk]
      exact congrArg _ (headLeft_goOffline (u.dropDrain p) r _ (own := none) (placesDiffer_cons.mp hall).2 _ regions
        hregions)
  · obtain ⟨rfl, hexec⟩ := exec_forceOffline hw hr hv
    rw [hexec, State.forceOffline]
    refine ⟨fun hdisabled => ?_, fun hoffline => ?_, fun honline hd => ?_⟩
    · rw [show (s.taken k).regions = s.regions from rfl, hdisabled]
      exact congrArg _ (taken_respond s k (.fault .control))
    · rw [show (s.taken k).regions = s.regions from rfl, hoffline]
      exact congrArg _ (taken_respond s k (.done .nothing))
    · intro x regions phase
      rw [show (s.taken k).regions = s.regions from rfl, honline]
      refine ⟨x.out.responses ++ [(k, .done .nothing)], List.perm_append_singleton _ _, congrArg _ ?_⟩
      have hgone : (s.taken k).goOffline (regionCmdRegion v) id (.regionOfflineForced (regionCmdRegion v) k) =
          { x with
            lastGranted := k
            regions := regions
            events := x.events.push (.regionOfflineForced (regionCmdRegion v) k)
            dev := { x.dev with phase := phase } } := by
        refine (goOffline_eq (s := s.taken k) (own := none) rfl hd _).trans ?_
        rw [departed_eq]
        exact congrArg (fun dev : DevicePort => { x with
          lastGranted := k
          regions := regions
          events := x.events.push (.regionOfflineForced (regionCmdRegion v) k)
          dev := dev }) (stopped_kick s.dev x.dev regions (regionCmdRegion v))
      exact (congrArg (fun w : State => w.ok k) hgone).trans (respond_eq _ _ _)

end Sys2Proof.Machine

/-! ## Run-outs of reservations and probe timers

A run-out comes about while no running timer has less left (R197); what it then does is said of the effect alone. -/

namespace Sys2Proof.Machine

section RunOuts

variable {s : State} {left : Option Nat} {n : Nat}

/-- A timer that no other precedes runs out. -/
theorem happen_runsOut (hp : s.porPin = false) (hl : left = some n) (hs : s.noneSooner n) (f : State → State) :
    happen s (s.runsOut left) f = .next (f s.quiet) :=
  happen_of hp (by rw [hl]; exact runsOut_iff.mpr hs)

/-- A timer does not run out while another has less left. -/
theorem happen_runsOut_later (hl : left = some n) (hs : ¬s.noneSooner n) (f : State → State) :
    happen s (s.runsOut left) f = .next s :=
  happen_not (by rw [hl, ← Bool.not_eq_true, runsOut_iff]; exact hs)

/-- A stopped timer does not run out. -/
theorem happen_runsOut_stopped (hl : left = none) (f : State → State) : happen s (s.runsOut left) f = .next s :=
  happen_not (by rw [hl, runsOut_none])

/-- The time left on a HELD entry is its reservation's. -/
theorem resLeft_held {e : ResId} {x : Reservation} (hx : s.res[e] = some x) : s.resLeft e = some x.remaining := by
  rw [State.resLeft, hx, Option.map_some]

theorem resLeft_free {e : ResId} (he : s.res[e] = none) : s.resLeft e = none := by
  rw [State.resLeft, he, Option.map_none]

/-- Time that elapses leaves a region's configuration as it is. -/
theorem elapse_cfg (s : State) (d : Nat) (r : RegionId) : (s.elapse d).regions[r].cfg = s.regions[r].cfg := by
  rw [elapse_region]
  rfl

/-- A region's PROBE joins the queue as its timer stops (R157, R158). -/
theorem queueProbe_eq (s : State) (r : RegionId) :
    s.queueProbe r = { s with
      regions := setAt s.regions r { s.regions[r] with probeTimer := none }
      dev := s.dev.join (setAt s.regions r { s.regions[r] with probeTimer := none })
        (probeOp r s.regions[r].cfg) } := rfl

theorem exec_expiry_eq (e : ResId) (s : State) : exec (.expiry e) s =
    happen s (s.runsOut (s.resLeft e)) fun s => (s.elapse ((s.resLeft e).getD 0)).freeEntry e := rfl

theorem exec_probeTimerRunOut_eq (r : RegionId) (s : State) : exec (.probeTimerRunOut r) s =
    happen s (s.runsOut s.regions[r].probeTimer) fun s =>
      (s.elapse (s.regions[r].probeTimer.getD 0)).queueProbe r := rfl

/-- An entry expires as its remaining time elapses (R85). -/
theorem exec_expiry {e : ResId} {x : Reservation} (hp : s.porPin = false) (hx : s.res[e] = some x)
    (hs : s.noneSooner x.remaining) : exec (.expiry e) s = .next ((s.elapse x.remaining).quiet.freeEntry e) := by
  have hleft : s.quiet.resLeft e = some x.remaining := resLeft_held hx
  rw [exec_expiry_eq, happen_runsOut hp (resLeft_held hx) hs, hleft]
  rfl

/-- A probe timer stops, and its region's PROBE is queued, as the time left on it elapses (R157). -/
theorem exec_probeTimerRunOut {r : RegionId} (hp : s.porPin = false) (hn : s.regions[r].probeTimer = some n)
    (hs : s.noneSooner n) : exec (.probeTimerRunOut r) s = .next ((s.elapse n).quiet.queueProbe r) := by
  rw [exec_probeTimerRunOut_eq, happen_runsOut hp hn hs, State.quiet_regions, hn]
  rfl

end RunOuts

/-- Settles O42, by whether the timer runs and whether another has less left. -/
theorem runOutsFreeReservationAndQueueProbe : Obligations.RunOutsFreeReservationAndQueueProbe := by
  unfold Obligations.RunOutsFreeReservationAndQueueProbe
  refine ⟨fun e s hp => ⟨fun x hx hs => ?_, fun x hx hs => ?_, fun he => ?_⟩,
    fun r s hp => ⟨fun n hn hs => ?_, fun n hn hs => ?_, fun hn => ?_⟩⟩
  · exact exec_expiry hp hx hs
  · rw [exec_expiry_eq, happen_runsOut_later (resLeft_held hx) hs]
  · rw [exec_expiry_eq, happen_runsOut_stopped (resLeft_free he)]
  · rw [exec_probeTimerRunOut_eq, happen_runsOut_later hn hs]
  · intro u regions addr
    have hcfg : u.quiet.regions[r].cfg = s.regions[r].cfg := elapse_cfg s n r
    rw [exec_probeTimerRunOut hp hn hs, queueProbe_eq, hcfg]
    rfl
  · rw [exec_probeTimerRunOut_eq, happen_runsOut_stopped hn]

end Sys2Proof.Machine

/-! ## HUB_STATE and the parameters

CONTROL_WINDOW_WRITE does what `State.writeParameter` says (R185); a parameter's range and the codes of the command
registers are then read off the written word. -/

namespace Sys2Proof.Machine

section Parameters

variable {s : State} {k : Port} {g : Reg} {v : Word}

/-- CONTROL_WINDOW_WRITE of a parameter, or of a code that no command has. -/
theorem exec_controlWindowWrite (h : s.writes k g v) (hn : (g.isParameter || g.badCode v) = true) :
    exec .controlWindowWrite s = .next ((s.taken k).writeParameter k g v) := by
  obtain ⟨t, hacc, hk, rfl, hp, hr⟩ := h
  have ⟨ht, hw, _, hg⟩ := hacc
  have hnamed : isParameterWrite t = true := by simp [isParameterWrite, hk, hw, hg, hn]
  refine (takeRequest_of ht hnamed).trans (congrArg _ ?_)
  rw [checkedAccess_of hacc (.inr hk) fun _ => ⟨hp, hr⟩, hg]

/-- A code that no command has is refused (R181, R184, R186, R187). -/
theorem exec_badCode (h : s.writes k g v) (hb : g.badCode v = true) :
    exec .controlWindowWrite s = .next (s.answering k (.fault .control)) := by
  have hrefused : (s.taken k).writeParameter k g v = (s.taken k).refuse k := by
    cases g with
    | resTime | noticeTime | urgency => cases hb
    | _ => rfl
  rw [exec_controlWindowWrite h (by rw [hb, Bool.or_true]), hrefused]
  exact congrArg _ (taken_respond s k _)

/-- The largest value of a parameter (R185). -/
def Reg.largest : Reg → Nat
  | .urgency => 15
  | _ => 255

/-- The state with the value `v` in the parameter `g` (R185). -/
def State.withParameter (s : State) (g : Reg) (v : Word) : State :=
  match g with
  | .resTime => { s with resTime := BitVec.ofNat 8 v.toNat }
  | .noticeTime => { s with noticeTime := BitVec.ofNat 8 v.toNat }
  | .urgency => { s with urgency := BitVec.ofNat 4 v.toNat }
  | _ => s

/-- A parameter takes a value in its range and refuses any other (R80, R105, R185). -/
theorem writeParameter_eq (s : State) (k : Port) (v : Word) (hg : g.isParameter = true) :
    s.writeParameter k g v =
      if 1 ≤ v.toNat ∧ v.toNat ≤ g.largest then (s.withParameter g v).ok k else s.refuse k := by
  cases g with
  | resTime | noticeTime | urgency =>
    simp only [State.withParameter, BitVec.ofNat_toNat]
    rfl
  | _ => cases hg

theorem taken_withParameter (s : State) (k : Port) (g : Reg) (v : Word) :
    (s.taken k).withParameter g v = (s.withParameter g v).taken k := by
  cases g <;> rfl

/-- A write of a value in its parameter's range. -/
theorem exec_parameter_inside (h : s.writes k g v) (hg : g.isParameter = true) (h1 : 1 ≤ v.toNat)
    (hmax : v.toNat ≤ g.largest) :
    exec .controlWindowWrite s = .next ((s.withParameter g v).answering k (.done .nothing)) := by
  rw [exec_controlWindowWrite h (by rw [hg, Bool.true_or]), writeParameter_eq _ k v hg, if_pos ⟨h1, hmax⟩,
    taken_withParameter]
  exact congrArg _ (taken_respond _ k _)

/-- A write of a value outside its parameter's range. -/
theorem exec_parameter_outside (h : s.writes k g v) (hg : g.isParameter = true)
    (hv : v.toNat = 0 ∨ g.largest < v.toNat) :
    exec .controlWindowWrite s = .next (s.answering k (.fault .control)) := by
  rw [exec_controlWindowWrite h (by rw [hg, Bool.true_or]), writeParameter_eq _ k v hg, if_neg (by omega)]
  exact congrArg _ (taken_respond s k _)

/-- RUN makes the hub RUN (R181). -/
theorem exec_run (h : s.writes k .hubState v) (hv : v.extractLsb' 0 2 = 1) :
    exec .run s = .next { s.answering k (.done .nothing) with hub := .run } :=
  have hexec : exec .run s = .next ((s.taken k).enterRun k) :=
    takeWrite_of (effect := fun s k _ => s.enterRun k) h rfl (beq_iff_eq.mpr hv)
  hexec.trans (congrArg _ (taken_respond { s with hub := .run } k _))

/-- The codes of SWEEP_CMD that no command has are 0 and those from 5 (R187). -/
theorem badCode_sweepCmd (hv : v.extractLsb' 0 3 = 0 ∨ 5 ≤ (v.extractLsb' 0 3).toNat) :
    Reg.badCode .sweepCmd v = true := by
  have hcodes : ∀ x : BitVec 3, x = 0 ∨ 5 ≤ x.toNat → (x == 0 || x == 5 || x == 6 || x == 7) = true := by decide
  exact hcodes (sweepCmdCode v) hv

end Parameters

/-- Settles O52, by the register written. -/
theorem hubStateAndParameterWrites : Obligations.HubStateAndParameterWrites := by
  unfold Obligations.HubStateAndParameterWrites
  intro s k g v h
  refine ⟨?_, ?_, ?_, ?_, ?_⟩
  · rintro rfl hv
    exact exec_run h hv
  · rintro rfl h1 h255
    exact exec_parameter_inside h rfl h1 h255
  · rintro rfl h1 h255
    exact exec_parameter_inside h rfl h1 h255
  · rintro rfl h1 h15
    exact exec_parameter_inside h rfl h1 h15
  · rintro (⟨rfl | rfl, hv⟩ | ⟨rfl, hv⟩ | ⟨rfl, hv⟩ | ⟨rfl, hv⟩ | ⟨rfl, hv⟩ | ⟨rfl, hv⟩)
    · exact exec_parameter_outside h rfl hv
    · exact exec_parameter_outside h rfl hv
    · exact exec_parameter_outside h rfl hv
    · exact exec_badCode h (by simpa [Reg.badCode, hubCmd] using hv)
    · exact exec_badCode h (by simpa [Reg.badCode, portCmdCode] using hv)
    · exact exec_badCode h (by simpa [Reg.badCode, regionCmdCode, or_assoc] using hv)
    · exact exec_badCode h (badCode_sweepCmd hv)

end Sys2Proof.Machine

/-! ## PORT_CFG, ATTACH and DETACH

A write to PORT_CFG sets the mode and then the two flags of the same port (R184); the effects of detach are those of
`State.unshared`, with the mode set beside them (R107, R111). -/

namespace Sys2Proof.Machine

section Attachment

variable {s u : State} {k j : Port} {v : Word} {m : Mode}

/-- An emptied notice queue and a change of the directory do not meet. -/
theorem emptyNotices_withDir (s : State) (dir : Vector DirSet 128) (k : Port) :
    State.emptyNotices { s with dir := dir } k = { s.emptyNotices k with dir := dir } := rfl

/-- The effects of detach: the port is out of every sharer set with its queue emptied, and DETACHED (R107). -/
theorem detach_eq (s : State) (k : Port) : s.detach k = (s.unshared k).setMode k s.ports[k].mode.detached := by
  have hunshared : (s.dropSharer k).emptyNotices k = s.unshared k :=
    (emptyNotices_withDir s _ k).trans (emptyNotices_dropSharer s k)
  rw [State.detach, hunshared]

/-- Taking a transaction and unsharing a port do not meet. -/
theorem unshared_taken (s : State) (k j : Port) : (s.taken k).unshared j = (s.unshared j).taken k := rfl

/-- The ports are not among what `State.unshared` changes. -/
theorem unshared_ports (s : State) (k : Port) : (s.unshared k).ports = s.ports := by
  simp only [State.unshared]

theorem taken_setMode (s : State) (k j : Port) (m : Mode) : (s.taken k).setMode j m = (s.setMode j m).taken k := rfl

/-- A mode written as it stands changes nothing. -/
theorem setMode_self (s : State) (j : Port) : s.setMode j s.ports[j].mode = s := by
  have hports : setAt s.ports j { s.ports[j] with mode := s.ports[j].mode } = s.ports := setAt_self s.ports j
  rw [State.setMode, State.setPort, hports]

/-- Of two modes written to a port the later one stands. -/
theorem setMode_setMode (s : State) (j : Port) (m m' : Mode) : (s.setMode j m).setMode j m' = s.setMode j m' := by
  simp only [State.setMode, State.setPort, setAt_setAt, setAt_getElem_self]

/-- A mode and the two flags of one port are one change of the port (R184). -/
theorem setMode_writePermission (u : State) (j : Port) (m : Mode) (p e : Bool) :
    (u.setMode j m).writePermission j p e = { u with
      ports := setAt u.ports j { u.ports[j] with mode := m, permission := p, eventEnable := e } } := by
  simp only [State.writePermission, State.setMode, State.setPort, setAt_setAt, setAt_getElem_self]

/-! ### What PORT_CFG does to the mode (R107, R111) -/

/-- COHERENT written to a PLAIN port. -/
theorem writeMode_coherent_of_plain (hm : s.ports[j].mode = .plain) :
    s.writeMode j true = s.setMode j (.coherent true) := by
  simp only [State.writeMode, hm]

/-- COHERENT written to a COHERENT port. -/
theorem writeMode_coherent_of_ne (hm : s.ports[j].mode ≠ .plain) :
    s.writeMode j true = s.setMode j s.ports[j].mode := by
  rw [setMode_self]
  cases h : s.ports[j].mode with
  | plain => exact absurd h hm
  | coherent a => simp only [State.writeMode, h]

/-- PLAIN written to a port that is not ATTACHED. -/
theorem writeMode_plain_of_ne (hm : s.ports[j].mode ≠ .coherent true) : s.writeMode j false = s.setMode j .plain := by
  cases h : s.ports[j].mode with
  | plain =>
    rw [← h, setMode_self]
    simp only [State.writeMode, h]
  | coherent a =>
    cases a with
    | true => exact absurd h hm
    | false => simp only [State.writeMode, h]

/-- PLAIN written to an ATTACHED port. -/
theorem writeMode_plain_of_attached (hm : s.ports[j].mode = .coherent true) :
    s.writeMode j false = (s.unshared j).setMode j .plain := by
  simp only [State.writeMode, hm, detach_eq, setMode_setMode]

/-! ### The rows -/

/-- No port but `j` has control permission (R184). -/
theorem othersPermitted_eq_false : s.othersPermitted j = false ↔ ∀ i, i ≠ j → s.ports[i].permission = false := by
  have hmem : ∀ i : Port, i ∈ allPorts := by decide
  simp [-Fin.getElem_fin, State.othersPermitted, hmem]

/-- A write to PORT_CFG that passes the checks of R179 has the register's effect. -/
theorem exec_portCfg (h : s.writes k (.portCfg j) v) :
    exec .portCfg s = .next ((s.taken k).writePortCfg j k v) :=
  (exec_write_eq_row h rfl).symm.trans (exec_write_window h)

/-- PORT_CFG that would leave no port with control permission (R184). -/
theorem exec_portCfg_refused (h : s.writes k (.portCfg j) v)
    (hp : v.getLsbD 1 = false ∧ ∀ i, i ≠ j → s.ports[i].permission = false) :
    exec .portCfg s = .next (s.answering k (.fault .control)) := by
  have ho : (s.taken k).othersPermitted j = false := othersPermitted_eq_false.mpr hp.2
  rw [exec_portCfg h, State.writePortCfg, if_pos (by rw [hp.1, ho]; rfl)]
  exact congrArg _ (taken_respond s k _)

/-- PORT_CFG that leaves a port with control permission, by what it does to the mode: `u` is what the mode's change
leaves at the other blocks (R184). -/
theorem exec_portCfg_written (h : s.writes k (.portCfg j) v)
    (hp : ¬(v.getLsbD 1 = false ∧ ∀ i, i ≠ j → s.ports[i].permission = false))
    (hu : (s.taken k).writeMode j (v.getLsbD 0) = (u.taken k).setMode j m) :
    exec .portCfg s = .next (State.answering { u with
      ports := setAt u.ports j { u.ports[j] with
        mode := m, permission := v.getLsbD 1, eventEnable := v.getLsbD 2 } } k (.done .nothing)) := by
  have ho : ¬(!v.getLsbD 1 && !(s.taken k).othersPermitted j) = true := by
    rw [Bool.and_eq_true, Bool.not_eq_true', Bool.not_eq_true']
    exact fun ⟨h1, h2⟩ => hp ⟨h1, othersPermitted_eq_false.mp h2⟩
  rw [exec_portCfg h, State.writePortCfg, if_neg ho, hu, setMode_writePermission]
  exact congrArg _ (taken_respond { u with ports := _ } k _)

/-- ATTACH, by the mode of the port named (R110). -/
theorem exec_attach (h : s.writes k .portCmd v) (hj : j.val = (v.extractLsb' 0 2).toNat) (hv : v.extractLsb' 8 2 = 1) :
    exec .attach s = .next (match s.ports[j].mode with
      | .plain => s.answering k (.fault .control)
      | .coherent true => s.answering k (.done .nothing)
      | .coherent false => (s.setMode j (.coherent true)).answering k (.done .nothing)) := by
  obtain rfl : portCmdPort v = j := Fin.ext hj.symm
  have hcode : (portCmdCode v == 1) = true := beq_iff_eq.mpr hv
  refine (takeWrite_of (effect := State.attachPort) h rfl hcode).trans (congrArg _ ?_)
  have hmode : (s.taken k).ports[portCmdPort v].mode = s.ports[portCmdPort v].mode := rfl
  rw [State.attachPort, hmode]
  cases s.ports[portCmdPort v].mode with
  | plain => exact taken_respond s k _
  | coherent attached =>
    cases attached with
    | true => exact taken_respond s k _
    | false => exact taken_respond (s.setMode _ (.coherent true)) k _

/-- DETACH, by the mode of the port named (R109). -/
theorem exec_detach (h : s.writes k .portCmd v) (hj : j.val = (v.extractLsb' 0 2).toNat) (hv : v.extractLsb' 8 2 = 2) :
    exec .detach s = .next (match s.ports[j].mode with
      | .plain => s.answering k (.fault .control)
      | .coherent true => ((s.unshared j).setMode j (.coherent false)).answering k (.done .nothing)
      | .coherent false => s.answering k (.done .nothing)) := by
  obtain rfl : portCmdPort v = j := Fin.ext hj.symm
  have hcode : (portCmdCode v == 2) = true := beq_iff_eq.mpr hv
  refine (takeWrite_of (effect := State.detachPort) h rfl hcode).trans (congrArg _ ?_)
  have hmode : (s.taken k).ports[portCmdPort v].mode = s.ports[portCmdPort v].mode := rfl
  rw [State.detachPort, detach_eq, unshared_taken, taken_setMode, hmode]
  cases s.ports[portCmdPort v].mode with
  | plain => exact taken_respond s k _
  | coherent attached =>
    cases attached with
    | true => exact taken_respond ((s.unshared _).setMode _ (.coherent false)) k _
    | false => exact taken_respond s k _

end Attachment

/-- Settles O54: PORT_CFG by the mode written and the mode that stands, ATTACH and DETACH by the mode of the port
named. -/
theorem portWritesSetModeAndAttachment : Obligations.PortWritesSetModeAndAttachment := by
  unfold Obligations.PortWritesSetModeAndAttachment
  refine ⟨fun s k j v h => ⟨exec_portCfg_refused h, fun hp => ⟨?_, ?_, ?_, ?_⟩⟩,
    fun s k j v h hj => ⟨fun hv => ⟨?_, ?_, ?_⟩, fun hv => ⟨?_, ?_, ?_⟩⟩⟩
  · intro h0 hm
    exact exec_portCfg_written h hp (u := s) (by rw [h0]; exact writeMode_coherent_of_plain hm)
  · intro h0 hm
    exact exec_portCfg_written h hp (u := s) (by rw [h0]; exact writeMode_coherent_of_ne hm)
  · intro h0 hm
    exact exec_portCfg_written h hp (u := s) (by rw [h0]; exact writeMode_plain_of_ne hm)
  · intro h0 hm
    rw [← unshared_ports s j]
    refine exec_portCfg_written h hp ?_
    rw [h0, writeMode_plain_of_attached (s := s.taken k) hm, unshared_taken]
  all_goals intro hm
  · rw [exec_attach h hj hv, hm]
  · rw [exec_attach h hj hv, hm]
  · rw [exec_attach h hj hv, hm]
    rfl
  · rw [exec_detach h hj hv, hm]
  · rw [exec_detach h hj hv, hm]
  · rw [exec_detach h hj hv, hm, ← unshared_ports s j]
    rfl

end Sys2Proof.Machine

/-! ## Notices leave their queue

An acknowledgement takes the head that it names (R103); a notice timer that runs out detaches its port (R106). -/

namespace Sys2Proof.Machine

section NoticesLeave

variable {s : State} {k : Port} {w : Word} {n : Notice} {rest : List Notice} {m : Nat}

theorem exec_acknowledgement_eq (k : Port) (w : Word) (s : State) : exec (.acknowledgement k w) s =
    happen s (s.notices[k].headNames (lineOf w)) fun s => s.acknowledge k := rfl

theorem exec_noticeTimeout_eq (k : Port) (s : State) : exec (.noticeTimeout k) s =
    happen s (s.runsOut s.notices[k].left) fun s => (s.elapse (s.notices[k].left.getD 0)).noticeTimedOut k := rfl

/-- A head names its own line alone (R103). -/
theorem headNames_iff {q : NoticeQueue} {l : LineAddr} :
    q.headNames l = true ↔ ∃ n, q.queue.head? = some n ∧ n.line = l := by
  cases hq : q.queue <;> simp [NoticeQueue.headNames, hq]

/-- A head that leaves, with the timer for the one behind it (R103, R104). -/
theorem acknowledged_cons {q : NoticeQueue} (hq : q.queue = n :: rest) (time : Nat) :
    q.acknowledged time = { queue := rest, timer := if rest = [] then none else some time } := by
  simp [NoticeQueue.acknowledged, hq]

/-- What the head's departure changes: the queue, and a foreign write or a sweep that waited for room (R103, R125,
R174). -/
theorem acknowledge_eq (hq : s.notices[k].queue = n :: rest) : s.acknowledge k = { s with
    notices := setAt s.notices k { queue := rest, timer := if rest = [] then none else some s.noticeTime.toNat }
    fifo := s.fifo.roomGained k
    sweep := s.sweep.roomGained k } := by
  rw [State.acknowledge, acknowledged_cons hq]
  rfl

/-- A sweep that waits for room in port `k`'s queue goes on, and no other does (R174). -/
theorem Sweep.roomGained_eq (x : Sweep) (k : Port) : x.roomGained k = match x.state with
    | .waitingNotice S => if S[k] = true then { x with state := .running } else x
    | _ => x := by
  cases h : x.state <;> simp only [Sweep.roomGained, h]

/-- An acknowledgement that names the head is taken (R103). -/
theorem exec_acknowledgement (hp : s.porPin = false) (hq : s.notices[k].queue = n :: rest) (hl : n.line = lineOf w) :
    exec (.acknowledgement k w) s = .next (s.quiet.acknowledge k) := by
  have hnames : s.notices[k].headNames (lineOf w) = true := headNames_iff.mpr ⟨n, by rw [hq]; rfl, hl⟩
  rw [exec_acknowledgement_eq, happen_of hp hnames]

/-- Any other acknowledgement is ignored (R103). -/
theorem exec_acknowledgement_ignored (h : ∀ n, s.notices[k].queue.head? = some n → n.line ≠ lineOf w) :
    exec (.acknowledgement k w) s = .next s := by
  have hnames : s.notices[k].headNames (lineOf w) = false := by
    rw [← Bool.not_eq_true, headNames_iff]
    exact fun ⟨n, hn, hl⟩ => h n hn hl
  rw [exec_acknowledgement_eq, happen_not hnames]

/-- The time left on a notice timer that runs for a head (R104). -/
theorem left_cons {q : NoticeQueue} (hq : q.queue = n :: rest) : q.left = q.timer := by
  simp [NoticeQueue.left, hq]

/-- Time that elapses leaves the notices queued. -/
theorem elapse_queue (s : State) (d : Nat) (k : Port) : (s.elapse d).notices[k].queue = s.notices[k].queue := by
  rw [State.elapse_notices, mapAll_getElem]
  rfl

/-- The outputs do not meet what `State.unshared` changes. -/
theorem unshared_quiet (s : State) (k : Port) : s.quiet.unshared k = (s.unshared k).quiet := rfl

/-- The event queue is not among what `State.unshared` changes. -/
theorem unshared_events (s : State) (k : Port) : (s.unshared k).events = s.events := by
  simp only [State.unshared]

theorem setMode_recordDetached (s : State) (k : Port) (m : Mode) (n : Notice) :
    (s.setMode k m).recordDetached k n = { s with
      ports := setAt s.ports k { s.ports[k] with mode := m }
      events := s.events.push (.portDetached n.kind k n.line) } := rfl

/-- A notice timeout detaches an ATTACHED port and records its head notice (R106, R107). -/
theorem noticeTimedOut_eq (hq : s.notices[k].queue = n :: rest) (hm : s.ports[k].mode = .coherent true) :
    s.noticeTimedOut k = { s.unshared k with
      ports := setAt s.ports k { s.ports[k] with mode := .coherent false }
      events := s.events.push (.portDetached n.kind k n.line) } := by
  rw [State.noticeTimedOut, hq, detach_eq, hm]
  simp only [setMode_recordDetached, unshared_ports, unshared_events, Mode.detached]

end NoticesLeave

/-- Settles O43, by whether the acknowledgement names the head, and by whether another timer has less left. -/
theorem noticesLeaveByAcknowledgementOrTimeout : Obligations.NoticesLeaveByAcknowledgementOrTimeout := by
  unfold Obligations.NoticesLeaveByAcknowledgementOrTimeout
  refine ⟨fun k w s hp => ⟨fun n rest hq hl => ?_, exec_acknowledgement_ignored⟩,
    fun k s n rest m hp hq ht hm => ⟨fun hs => ?_, fun hs => ?_⟩⟩
  · rw [exec_acknowledgement hp hq hl, acknowledge_eq (s := s.quiet) hq, Sweep.roomGained_eq]
    rfl
  · have hleft : s.notices[k].left = some m := (left_cons hq).trans ht
    have hqueue : (s.quiet.elapse m).notices[k].queue = n :: rest := (elapse_queue s.quiet m k).trans hq
    rw [exec_noticeTimeout_eq, happen_runsOut hp hleft hs, State.quiet_notices, hleft, Option.getD_some,
      noticeTimedOut_eq hqueue hm]
    generalize hu : (s.elapse m).unshared k = u
    have hquiet : (s.quiet.elapse m).unshared k = u.quiet := hu ▸ unshared_quiet (s.elapse m) k
    rw [hquiet]
    rfl
  · rw [exec_noticeTimeout_eq, happen_runsOut_later ((left_cons hq).trans ht) hs]

end Sys2Proof.Machine

/-! ## The words read back

A word of the layout table is its fields, each a number at its place, with zero in what is assigned to nothing (R183,
R189). `wordOf` puts such a list of fields together, `laidFrom` says that they stand in order and fit, and then each of them is
read back as it was placed. -/

namespace Sys2Proof.Machine

/-- A number in a field of a word: its lowest bit, how many bits it has, and the number. -/
structure WordField where
  pos : Nat
  width : Nat
  val : Nat

/-- The word that the fields of a list make up. -/
def wordOf (fs : List WordField) : Word := fs.foldr (fun f w => field f.pos f.val ||| w) 0#32

/-- The fields of a list stand one above the other from a bit up to the word's last, each number within its bits. -/
def laidFrom : Nat → List WordField → Prop
  | p, [] => p ≤ 32
  | p, f :: fs => p ≤ f.pos ∧ f.val < 2 ^ f.width ∧ laidFrom (f.pos + f.width) fs

/-- A word holds a number in a field. -/
def holdsField (w : Word) (f : WordField) : Prop := (w.extractLsb' f.pos f.width).toNat = f.val

section Layout

variable {w : Word} {fs : List WordField} {f : WordField} {p i : Nat}

/-- The bits of a number placed in a word. -/
theorem field_getLsbD (p v i : Nat) :
    (field p v).getLsbD i = (decide (i < 32) && decide (p ≤ i) && v.testBit (i - p)) := by
  have hsub : i < 32 → i - p < 32 := fun h => by omega
  rw [field, BitVec.getLsbD_shiftLeft, BitVec.getLsbD_ofNat]
  grind

theorem wordOf_cons_getLsbD (f : WordField) (fs : List WordField) (i : Nat) :
    (wordOf (f :: fs)).getLsbD i = ((field f.pos f.val).getLsbD i || (wordOf fs).getLsbD i) := by
  rw [wordOf, List.foldr_cons, BitVec.getLsbD_or]
  rfl

/-- A list of fields ends within the word. -/
theorem laidFrom_le (h : laidFrom p fs) : p ≤ 32 := by
  induction fs generalizing p with
  | nil => exact h
  | cons f fs ih =>
    obtain ⟨hpos, -, hrest⟩ := h
    have := ih hrest
    omega

/-- Below the first field a word is zero. -/
theorem wordOf_below (h : laidFrom p fs) (hi : i < p) : (wordOf fs).getLsbD i = false := by
  induction fs generalizing p with
  | nil => exact BitVec.getLsbD_zero
  | cons f fs ih =>
    obtain ⟨hpos, -, hrest⟩ := h
    have hlow : ¬f.pos ≤ i := by omega
    rw [wordOf_cons_getLsbD, ih hrest (by omega), field_getLsbD, decide_eq_false hlow]
    simp

/-- A field of a word has the bits of its number. -/
theorem wordOf_field_bit (h : laidFrom p fs) (hf : f ∈ fs) (hi : i < f.width) :
    p ≤ f.pos ∧ (wordOf fs).getLsbD (f.pos + i) = f.val.testBit i := by
  induction fs generalizing p with
  | nil => cases hf
  | cons g fs ih =>
    obtain ⟨hpos, hfits, hrest⟩ := h
    rw [wordOf_cons_getLsbD, field_getLsbD]
    obtain rfl | hf := List.mem_cons.mp hf
    · have hlast := laidFrom_le hrest
      have hin : f.pos + i < 32 := by omega
      refine ⟨hpos, ?_⟩
      rw [wordOf_below hrest (by omega)]
      simp [hin]
    · obtain ⟨habove, hbit⟩ := ih hrest hf
      have hclear : g.val.testBit (f.pos + i - g.pos) = false :=
        Nat.testBit_lt_two_pow (hfits.trans_le (Nat.pow_le_pow_right two_pos (by omega)))
      refine ⟨by omega, ?_⟩
      rw [hbit, hclear, Bool.and_false, Bool.false_or]

theorem fits_of_mem (h : laidFrom p fs) (hf : f ∈ fs) : f.val < 2 ^ f.width := by
  induction fs generalizing p with
  | nil => cases hf
  | cons g fs ih =>
    obtain ⟨-, hfits, hrest⟩ := h
    obtain rfl | hf := List.mem_cons.mp hf
    · exact hfits
    · exact ih hrest hf

/-- Every field of a word is read back as it was placed. -/
theorem wordOf_holds (h : laidFrom p fs) (hf : f ∈ fs) : holdsField (wordOf fs) f := by
  refine Nat.eq_of_testBit_eq fun i => ?_
  rw [BitVec.testBit_toNat, BitVec.getLsbD_extractLsb']
  by_cases hi : i < f.width
  · rw [(wordOf_field_bit h hf hi).2, decide_eq_true hi, Bool.true_and]
  · rw [decide_eq_false hi, Bool.false_and]
    exact (Nat.testBit_lt_two_pow ((fits_of_mem h hf).trans_le
      (Nat.pow_le_pow_right two_pos (by omega)))).symm

/-- A word that is put together from fields holds each of them. -/
theorem holds_of_laid (hw : w = wordOf fs) (h : laidFrom 0 fs) : fs.Forall (holdsField w) :=
  List.forall_iff_forall_mem.mpr fun _ hf => hw ▸ wordOf_holds h hf

end Layout

/-! ### How a field is read -/

section Fields

variable {w : Word} {p n : Nat}

/-- A flag is a field of one bit. -/
theorem holdsField_flag {b : Bool} (h : holdsField w ⟨p, 1, b.toNat⟩) : w.getLsbD p = b := by
  have hbit := congrArg (Nat.testBit · 0) h
  cases b <;> simpa [BitVec.testBit_toNat] using hbit

theorem holdsField_flag_iff {b : Bool} {c : Prop} (hb : b = true ↔ c) (h : holdsField w ⟨p, 1, b.toNat⟩) :
    w.getLsbD p = true ↔ c := by
  rw [holdsField_flag h, hb]

/-- A field that is assigned to nothing is zero. -/
theorem holdsField_zero (h : holdsField w ⟨p, n, 0⟩) : w.extractLsb' p n = 0 := BitVec.eq_of_toNat_eq h

theorem holdsField_bits {x : BitVec n} (h : holdsField w ⟨p, n, x.toNat⟩) : w.extractLsb' p n = x :=
  BitVec.eq_of_toNat_eq h

/-- A set of ports is held by one flag for each port (R183). -/
theorem holdsField_ports {S : PortSet} (h0 : holdsField w ⟨p, 1, S[0].toNat⟩) (h1 : holdsField w ⟨p + 1, 1, S[1].toNat⟩)
    (h2 : holdsField w ⟨p + 2, 1, S[2].toNat⟩) (h3 : holdsField w ⟨p + 3, 1, S[3].toNat⟩) (j : Port) :
    w.getLsbD (p + j.val) = S[j] := by
  match j with
  | 0 => exact holdsField_flag h0
  | 1 => exact holdsField_flag h1
  | 2 => exact holdsField_flag h2
  | 3 => exact holdsField_flag h3

/-- Nothing placed in a field is no bit. -/
theorem field_zero (p : Nat) : field p 0 = 0#32 := by
  simp [field]

theorem lineWord_eq_field (l : LineAddr) : lineWord l = field 5 l.toNat := by
  apply BitVec.eq_of_getLsbD_eq
  intro i hi
  rw [field_getLsbD, lineWord, BitVec.getLsbD_append, BitVec.testBit_toNat]
  by_cases h : i < 5
  · simp [h]
  · simp [h, hi, not_lt.mp h]

theorem lineWord_line (l : LineAddr) : (lineWord l).extractLsb' 5 27 = l := BitVec.extractLsb'_append_eq_left

theorem lineWord_low (l : LineAddr) : (lineWord l).extractLsb' 0 5 = 0 := BitVec.extractLsb'_append_eq_right

end Fields

/-! ### Codes and flags (R183, R189)

Each code fits its field; what a flag says of the state. -/

theorem Width.code_lt (x : Width) : x.code < 4 := by cases x <;> decide

theorem Health.code_lt (x : Health) : x.code < 4 := by cases x <;> decide

theorem LineState.code_lt (x : LineState) : x.code < 4 := by cases x <;> decide

theorem SweepState.code_lt (x : SweepState) : x.code < 4 := by cases x <;> simp [SweepState.code]

theorem SweepState.waitCode_lt (x : SweepState) : x.waitCode < 4 := by cases x <;> simp [SweepState.waitCode]

theorem sweepCommandCode_lt (c : Option SweepCommand) : sweepCommandCode c < 4 := by
  match c with
  | none | some .clean | some .flush | some .discard => decide

theorem Event.kindCode_lt (e : Event) : e.kindCode < 16 := by cases e <;> simp [Event.kindCode]

theorem Event.detailCode_lt (e : Event) : e.detailCode < 16 := by
  cases e with
  | drainLost x | writeLost x | foreignConflict x | portDetached x | sweepDone x => cases x <;> simp [Event.detailCode]
  | _ => simp [Event.detailCode]

theorem Mode.isCoherent_iff (m : Mode) : m.isCoherent = true ↔ m ≠ .plain := by
  cases m <;> simp [Mode.isCoherent]

theorem Mode.attached_iff (m : Mode) : m.attached = true ↔ m = .coherent true := by
  cases m <;> simp [Mode.attached]

/-- A sweep that does not wait for room waits for no port (R166). -/
theorem SweepState.waitSet_of_ne {x : SweepState} (h : ∀ S, x ≠ .waitingNotice S) (j : Port) :
    x.waitSet[j] = false := by
  have hempty : ∀ j : Port, PortSet.empty[j] = false := by decide
  cases x with
  | waitingNotice S => exact absurd rfl (h S)
  | _ => exact hempty j

/-! ### The layout of each word (R183, R189) -/

section Words

variable {s : State}

/-- HUB_STATE. -/
theorem hubState_holds (s : State) (k : Port) :
    [⟨0, 1, (s.hub == .run).toNat⟩, ⟨1, 31, 0⟩].Forall (holdsField (s.readReg k .hubState)) := by
  refine holds_of_laid ?_ ?_
  · simp [State.readReg, wordOf, flag, field_zero]
  · simp [laidFrom, Bool.toNat_le]

/-- PORT_CFG (R184). -/
theorem portCfg_holds {j : Port} (k : Port) (hr : s.ports[j].retry ≤ 15) :
    [⟨0, 1, s.ports[j].mode.isCoherent.toNat⟩, ⟨1, 1, s.ports[j].permission.toNat⟩,
      ⟨2, 1, s.ports[j].eventEnable.toNat⟩, ⟨3, 1, 0⟩, ⟨4, 1, s.ports[j].mode.attached.toNat⟩,
      ⟨5, 1, (s.urgent j).toNat⟩, ⟨6, 2, 0⟩, ⟨8, 4, s.ports[j].retry⟩,
      ⟨12, 20, 0⟩].Forall (holdsField (s.readReg k (.portCfg j))) := by
  refine holds_of_laid ?_ ?_
  · simp [State.readReg, State.portCfgWord, wordOf, flag, field_zero, BitVec.or_assoc]
  · simp [-Fin.getElem_fin, laidFrom, Bool.toNat_le, Nat.lt_succ_of_le hr]

/-- Word 2 of a REGION group (R186). -/
theorem regionWord_holds {n : RegionId} (k : Port) (hc : s.regions[n].count ≤ 7) :
    [⟨0, 2, s.regions[n].cfg.width.code⟩, ⟨2, 1, s.regions[n].cfg.cacheable.toNat⟩,
      ⟨3, 1, s.regions[n].cfg.writeThrough.toNat⟩, ⟨4, 8, s.regions[n].cfg.readyTimeout.toNat⟩,
      ⟨12, 3, s.regions[n].cfg.threshold.toNat⟩, ⟨15, 1, 0⟩, ⟨16, 8, s.regions[n].cfg.probeInterval.toNat⟩,
      ⟨24, 2, s.regions[n].health.code⟩, ⟨26, 2, 0⟩, ⟨28, 3, s.regions[n].count⟩,
      ⟨31, 1, 0⟩].Forall (holdsField (s.readReg k (.regionWord n 2))) := by
  refine holds_of_laid ?_ ?_
  · simp [State.readReg, Region.word, wordOf, flag, field_zero, BitVec.or_assoc]
  · simp [-Fin.getElem_fin, laidFrom, Bool.toNat_le, Width.code_lt, Health.code_lt, Nat.lt_succ_of_le hc]
    omega

/-- SWEEP_STATUS word 0 (R166). -/
theorem sweepStatus0_holds (k : Port) (hd : s.drains.length ≤ 2) :
    [⟨0, 2, s.sweep.state.code⟩, ⟨2, 2, sweepCommandCode s.sweep.command⟩, ⟨4, 1, s.sweep.filter.isNone.toNat⟩,
      ⟨5, 3, (s.sweep.filter.getD (Config.absentFilter s.fresh)).val⟩, ⟨8, 2, s.sweep.issuer.val⟩,
      ⟨10, 2, s.sweep.state.waitCode⟩, ⟨12, 1, s.sweep.state.waitSet[0].toNat⟩,
      ⟨13, 1, s.sweep.state.waitSet[1].toNat⟩, ⟨14, 1, s.sweep.state.waitSet[2].toNat⟩,
      ⟨15, 1, s.sweep.state.waitSet[3].toNat⟩, ⟨16, 1, s.sweep.aborted.toNat⟩, ⟨17, 7, s.sweep.set.val⟩,
      ⟨24, 2, s.sweep.way.val⟩, ⟨26, 2, s.drains.length⟩, ⟨28, 2, (s.drains.filter (·.held)).length⟩,
      ⟨30, 2, 0⟩].Forall (holdsField (s.readReg k .sweepStatus0)) := by
  have hheld : (s.drains.filter (·.held)).length ≤ 2 := (List.length_filter_le _ _).trans hd
  refine holds_of_laid ?_ ?_
  · simp [State.readReg, State.sweepStatus0, portBits, wordOf, flag, field_zero, BitVec.or_assoc]
  · simp [laidFrom, Bool.toNat_le, SweepState.code_lt, SweepState.waitCode_lt, sweepCommandCode_lt]
    omega

/-- SWEEP_STATUS word 1. -/
theorem sweepStatus1_holds (k : Port) (hw : s.sweep.writtenBack ≤ 512) (hi : s.sweep.invalidated ≤ 512)
    (hs : s.sweep.skipped ≤ 512) :
    [⟨0, 10, s.sweep.writtenBack⟩, ⟨10, 10, s.sweep.invalidated⟩, ⟨20, 10, s.sweep.skipped⟩,
      ⟨30, 2, 0⟩].Forall (holdsField (s.readReg k .sweepStatus1)) := by
  refine holds_of_laid ?_ ?_
  · simp [State.readReg, Sweep.status1, wordOf, field_zero, BitVec.or_assoc]
  · simp [laidFrom]
    omega

/-- LINE_QUERY word 0 (R188). -/
theorem lineQuery0_holds (k : Port) (hd : s.snapshot.drains ≤ 2) :
    [⟨0, 2, s.snapshot.state.code⟩, ⟨2, 2, s.snapshot.way.val⟩, ⟨4, 1, s.snapshot.sharers[0].toNat⟩,
      ⟨5, 1, s.snapshot.sharers[1].toNat⟩, ⟨6, 1, s.snapshot.sharers[2].toNat⟩, ⟨7, 1, s.snapshot.sharers[3].toNat⟩,
      ⟨8, 1, s.snapshot.regionPresent.toNat⟩, ⟨9, 3, s.snapshot.region.val⟩, ⟨12, 1, s.snapshot.reserved.toNat⟩,
      ⟨13, 2, s.snapshot.owner.val⟩, ⟨15, 3, s.snapshot.word.val⟩, ⟨18, 2, s.snapshot.drains⟩,
      ⟨20, 2, s.snapshot.slot.val⟩, ⟨22, 10, 0⟩].Forall (holdsField (s.readReg k .lineQuery0)) := by
  refine holds_of_laid ?_ ?_
  · simp [State.readReg, Snapshot.word0, portBits, wordOf, flag, field_zero, BitVec.or_assoc]
  · simp [laidFrom, Bool.toNat_le, LineState.code_lt]
    omega

/-- EVENT_STATUS (R192). -/
theorem eventStatus_holds (k : Port) (he : s.events.records.length ≤ 16) :
    [⟨0, 5, s.events.records.length⟩, ⟨5, 3, 0⟩, ⟨8, 1, s.events.overflow.toNat⟩,
      ⟨9, 23, 0⟩].Forall (holdsField (s.readReg k .eventStatus)) := by
  refine holds_of_laid ?_ ?_
  · simp [State.readReg, EventQueue.status, wordOf, flag, field_zero]
  · simp [laidFrom, Bool.toNat_le]
    omega

/-- Word 0 of an event record (R189). -/
theorem Event.word0_holds (e : Event) (n : Nat) :
    [⟨0, 4, e.kindCode⟩, ⟨4, 4, e.detailCode⟩, ⟨8, 1, e.port?.isSome.toNat⟩,
      ⟨9, 2, (e.port?.getD (Config.absentPort n)).val⟩, ⟨11, 1, e.region?.isSome.toNat⟩,
      ⟨12, 3, (e.region?.getD (Config.absentRegion n)).val⟩, ⟨15, 1, e.line?.isSome.toNat⟩,
      ⟨16, 16, 0⟩].Forall (holdsField (e.word0 n)) := by
  refine holds_of_laid ?_ ?_
  · simp [Event.word0, wordOf, flag, field_zero, BitVec.or_assoc]
  · simp [laidFrom, Bool.toNat_le, Event.kindCode_lt, Event.detailCode_lt]

/-- The word on a notice channel (R189). -/
theorem Notice.word_holds (n : Notice) :
    [⟨0, 1, (n.kind == .revoke).toNat⟩, ⟨1, 4, (Config.noticeSpare n.line (n.kind == .revoke)).toNat⟩,
      ⟨5, 27, n.line.toNat⟩].Forall (holdsField n.word) := by
  refine holds_of_laid ?_ ?_
  · rw [Notice.word, lineWord_eq_field, BitVec.or_comm, BitVec.or_comm (field 5 _)]
    simp [wordOf, flag]
  · simpa [laidFrom, Bool.toNat_le] using ⟨(Config.noticeSpare _ _).isLt, n.line.isLt⟩

end Words

/-! ### The records of the event queue (R189) -/

/-- The two words of a record hold a kind, a detail, and the port, region and line that the record carries, with zero in
every bit that is assigned to nothing. -/
def Event.reads (e : Event) (n kind detail : Nat) (port : Option Port) (region : Option RegionId)
    (line : Option LineAddr) : Prop :=
  ((e.word0 n).extractLsb' 0 4).toNat = kind ∧ ((e.word0 n).extractLsb' 4 4).toNat = detail ∧
    (e.word0 n).getLsbD 8 = port.isSome ∧ (∀ k ∈ port, ((e.word0 n).extractLsb' 9 2).toNat = k.val) ∧
    (e.word0 n).getLsbD 11 = region.isSome ∧ (∀ r ∈ region, ((e.word0 n).extractLsb' 12 3).toNat = r.val) ∧
    (e.word0 n).getLsbD 15 = line.isSome ∧ (e.word0 n).extractLsb' 16 16 = 0 ∧
    (∀ l ∈ line, e.word1.extractLsb' 5 27 = l ∧ e.word1.extractLsb' 0 5 = 0) ∧ (line = none → e.word1 = 0)

/-- Word 1 of a record is the line that it carries. -/
theorem Event.word1_of_line {e : Event} {l : LineAddr} (h : e.line? = some l) : e.word1 = lineWord l := by
  rw [Event.word1, h]
  rfl

theorem Event.word1_of_none {e : Event} (h : e.line? = none) : e.word1 = 0 := by
  rw [Event.word1, h]
  rfl

/-- A record is read back by its codes and by what it carries. -/
theorem Event.reads_own (e : Event) (n : Nat) : e.reads n e.kindCode e.detailCode e.port? e.region? e.line? := by
  obtain ⟨hkind, hdetail, hport, hk, hregion, hr, hline, hrest⟩ := e.word0_holds n
  refine ⟨hkind, hdetail, holdsField_flag hport, fun k h => ?_, holdsField_flag hregion, fun r h => ?_,
    holdsField_flag hline, holdsField_zero hrest, fun l h => ?_, Event.word1_of_none⟩
  · exact hk.trans (by rw [Option.mem_def.mp h, Option.getD_some])
  · exact hr.trans (by rw [Option.mem_def.mp h, Option.getD_some])
  · rw [Event.word1_of_line h]
    exact ⟨lineWord_line l, lineWord_low l⟩

/-! ### The notice channels (R102, R195) -/

theorem noticeWord_none {s : State} {k : Port} (h : s.porPin = true ∨ s.notices[k].queue = []) :
    s.noticeWord k = none := by
  rw [State.noticeWord, State.noticeShown]
  rcases h with hp | hq
  · rw [if_pos hp, Option.map_none]
  · rw [hq, List.head?_nil, ite_self, Option.map_none]

theorem noticeWord_cons {s : State} {k : Port} {n : Notice} {rest : List Notice} (hp : s.porPin = false)
    (hq : s.notices[k].queue = n :: rest) : s.noticeWord k = some n.word := by
  rw [State.noticeWord, State.noticeShown, hp, hq]
  rfl

/-- Settles O51: the codes, then each word by its layout, and the records by what they carry. -/
theorem readBackWordsFollowLayout : Obligations.ReadBackWordsFollowLayout := by
  unfold Obligations.ReadBackWordsFollowLayout
  refine ⟨?codes, fun s k => ?hubAndParameters, fun s k n => ?regionRanges, fun s k j hr => ?portCfg,
    fun s k n hc => ?regionConfig, fun s k hd => ?sweepStatus, fun s k hw hi hs => ?sweepCounts,
    fun s k hd => ?lineQuery, fun s k he => ?eventStatus, fun e n => ?records, fun s k => ?notices⟩
  case codes =>
    exact ⟨rfl, rfl, rfl, rfl, rfl, rfl, rfl, rfl, rfl, rfl, rfl, rfl, rfl, rfl, rfl, rfl, rfl, rfl, rfl, rfl,
      fun _ => ⟨rfl, rfl, rfl⟩, fun _ j h => SweepState.waitSet_of_ne h j⟩
  case hubAndParameters =>
    obtain ⟨hrun, hrest⟩ := hubState_holds s k
    exact ⟨holdsField_flag_iff beq_iff_eq hrun, holdsField_zero hrest, BitVec.toNat_setWidth_of_le (by decide),
      BitVec.toNat_setWidth_of_le (by decide), BitVec.toNat_setWidth_of_le (by decide), rfl, rfl, rfl, rfl,
      lineWord_line _, lineWord_low _⟩
  case regionRanges =>
    exact ⟨BitVec.extractLsb'_append_eq_left, BitVec.extractLsb'_append_eq_right, BitVec.extractLsb'_append_eq_left,
      BitVec.extractLsb'_append_eq_right, rfl⟩
  case portCfg =>
    obtain ⟨hmode, hpermission, henable, h3, hattached, hurgent, h6, hretry, h12⟩ := portCfg_holds k hr
    exact ⟨holdsField_flag_iff (Mode.isCoherent_iff _) hmode, holdsField_flag hpermission, holdsField_flag henable,
      holdsField_flag_iff (Mode.attached_iff _) hattached, holdsField_flag_iff urgent_iff hurgent, hretry,
      holdsField_zero h12, holdsField_flag (b := false) h3, holdsField_zero h6⟩
  case regionConfig =>
    obtain ⟨hwidth, hcacheable, hthrough, htimeout, hthreshold, h15, hinterval, hhealth, h26, hcount, h31⟩ :=
      regionWord_holds k hc
    exact ⟨hwidth, holdsField_flag hcacheable, holdsField_flag hthrough, holdsField_bits htimeout,
      holdsField_bits hthreshold, holdsField_bits hinterval, hhealth, hcount, holdsField_flag (b := false) h15,
      holdsField_zero h26, holdsField_flag (b := false) h31⟩
  case sweepStatus =>
    obtain ⟨hstate, hcommand, hall, hfilter, hissuer, hwait, h0, h1, h2, h3, haborted, hset, hway, hdrains, hheld,
      h30⟩ := sweepStatus0_holds k hd
    exact ⟨hstate, hcommand, holdsField_flag hall, fun r h => hfilter.trans (by rw [h, Option.getD_some]), hissuer,
      hwait, holdsField_ports h0 h1 h2 h3, holdsField_flag haborted, hset, hway, hdrains, hheld, holdsField_zero h30⟩
  case sweepCounts =>
    obtain ⟨hwritten, hinvalidated, hskipped, h30⟩ := sweepStatus1_holds k hw hi hs
    exact ⟨hwritten, hinvalidated, hskipped, holdsField_zero h30⟩
  case lineQuery =>
    obtain ⟨hstate, hway, h0, h1, h2, h3, hpresent, hregion, hreserved, howner, hword, hdrains, hslot, h22⟩ :=
      lineQuery0_holds k hd
    exact ⟨hstate, hway, holdsField_ports h0 h1 h2 h3, holdsField_flag hpresent, hregion, holdsField_flag hreserved,
      howner, hword, hdrains, hslot, holdsField_zero h22⟩
  case eventStatus =>
    obtain ⟨hrecords, h5, hoverflow, h9⟩ := eventStatus_holds k he
    exact ⟨hrecords, holdsField_flag hoverflow, holdsField_zero h5, holdsField_zero h9⟩
  case records =>
    have hreads := e.reads_own n
    cases e with
    | drainLost x | writeLost x | foreignConflict x | portDetached x | sweepDone x => cases x <;> exact hreads
    | _ => exact hreads
  case notices =>
    refine ⟨noticeWord_none, fun n rest hp hq => ⟨n.word, noticeWord_cons hp hq, ?_⟩⟩
    obtain ⟨hkind, -, hline⟩ := n.word_holds
    exact ⟨holdsField_bits hline, holdsField_flag_iff beq_iff_eq hkind⟩

end Sys2Proof.Machine

/-! ## Foreign writes

A report joins the FIFO at the input (R115), and its evaluation at the directory applies it to the line or defers it
(R117 to R124). -/

namespace Sys2Proof.Machine

section Foreign

variable {s : State} {l : LineAddr} {ls : List LineAddr} {w : WayIdx} {x : Held}

theorem exec_foreignWrite_eq (a : Word) (s : State) :
    exec (.foreignWrite a) s = happen s s.fifo.hasRoom fun s => s.acceptForeign (lineOf a) := rfl

theorem exec_evaluation_eq (s : State) : exec .evaluation s = happen s s.fifo.pendingHead State.evaluate := rfl

/-- Room in the FIFO is fewer than 8 entries (R115). -/
theorem ForeignFifo.hasRoom_iff {f : ForeignFifo} : f.hasRoom = true ↔ f.lines.length < 8 := decide_eq_true_iff

/-- A PENDING head is an entry that waits for no port (R116). -/
theorem ForeignFifo.pendingHead_iff {f : ForeignFifo} :
    f.pendingHead = true ↔ f.lines ≠ [] ∧ f.deferred = none := by
  simp [ForeignFifo.pendingHead]

/-- The evaluation of a PENDING head is that of its line (R117). -/
theorem exec_evaluation (hp : s.porPin = false) (hl : s.fifo.lines = l :: ls) (hd : s.fifo.deferred = none) :
    exec .evaluation s = .next (s.quiet.evaluateLine l) := by
  have hpending : s.fifo.pendingHead = true := ForeignFifo.pendingHead_iff.mpr ⟨by simp [hl], hd⟩
  rw [exec_evaluation_eq, happen_of hp hpending, State.evaluate, State.quiet_fifo, hl]

/-- Without a PENDING head nothing is evaluated (R117, R119). -/
theorem exec_evaluation_idle (h : s.fifo.lines = [] ∨ s.fifo.deferred ≠ none) : exec .evaluation s = .next s := by
  have hpending : s.fifo.pendingHead = false := by
    rw [← Bool.not_eq_true, ForeignFifo.pendingHead_iff]
    exact fun ⟨hl, hd⟩ => h.elim hl (· hd)
  rw [exec_evaluation_eq, happen_not hpending]

/-! ### The FOREIGN_CONFLICT record (R121, R124) -/

/-- The event queue after the record of an evaluation, if it makes one. -/
def State.conflicted (s : State) (l : LineAddr) (dirty : Option RegionId) : EventQueue :=
  (conflictOf l dirty (s.drainRegion l)).elim s.events s.events.push

theorem recordConflict_eq (s : State) (l : LineAddr) (dirty : Option RegionId) :
    s.recordConflict l dirty = { s with events := s.conflicted l dirty } := by
  unfold State.recordConflict State.conflicted
  cases conflictOf l dirty (s.drainRegion l) <;> rfl

/-- A line that is not DIRTY conflicts with a drain entry alone, the oldest that names it. -/
theorem conflicted_none (s : State) (l : LineAddr) :
    s.conflicted l none = match s.drains.find? fun e => e.line == l with
      | none => s.events
      | some e => s.events.push (.foreignConflict .drainPending e.region l) := by
  unfold State.conflicted State.drainRegion
  cases s.drains.find? fun e => e.line == l <;> rfl

/-- A DIRTY line conflicts itself, and with a drain entry too if one names it. -/
theorem conflicted_some (s : State) (l : LineAddr) (r : RegionId) :
    s.conflicted l (some r) = match s.drains.find? fun e => e.line == l with
      | none => s.events.push (.foreignConflict .dirtyDropped r l)
      | some _ => s.events.push (.foreignConflict .both r l) := by
  unfold State.conflicted State.drainRegion
  cases s.drains.find? fun e => e.line == l <;> rfl

/-- Of the ways that hold a line, DIRTY ones alone have their region in the record. -/
theorem Entry.dirtyRegion?_of_held {e : Entry} (he : e.held? = some x) :
    e.dirtyRegion? = if e = .dirty x then some x.region else none := by
  cases e <;> simp_all [Entry.held?, Entry.dirtyRegion?]

/-! ### The evaluation by the state of the line (R117 to R123) -/

/-- All that a foreign write changes where no way holds its line CLEAN or DIRTY, but for a taint (R121, R122). -/
theorem recordConflict_popForeign (s : State) (l : LineAddr) :
    (s.recordConflict l none).popForeign = { s with
      fifo := { lines := s.fifo.lines.tail, deferred := none }
      events := s.conflicted l none } := by
  rw [recordConflict_eq]
  rfl

theorem evaluateLine_absent (h : s.lookup l = none) : s.evaluateLine l = (s.recordConflict l none).popForeign := by
  simp only [State.evaluateLine, h]

theorem evaluateLine_filling {tag : Tag} {r : RegionId} {i : SlotId} (h : s.lookup l = some w)
    (he : s.entry (setOf l) w = .filling tag r i) :
    s.evaluateLine l = ((s.taint i).recordConflict l none).popForeign := by
  simp only [State.evaluateLine, h, he]

theorem evaluateLine_hits (h : s.hits l w x) : s.evaluateLine l = s.evaluateHeld l w x := by
  obtain ⟨hw, hx⟩ := h
  cases he : s.entry (setOf l) w <;> simp_all [State.evaluateLine, Entry.held?]

/-- A BUSY slot is tainted (R122). -/
theorem taint_eq {i : SlotId} {f : Fill} (hf : s.slots[i] = some f) :
    s.taint i = { s with slots := setAt s.slots i (some { f with tainted := true }) } := by
  rw [State.taint, hf, Option.map_some]

/-- The head waits for the sharers that lack room (R119). -/
theorem evaluateHeld_deferred (h : ¬s.roomFor x.sharers l) :
    s.evaluateHeld l w x = s.deferHead (s.lacking x.sharers l) := by
  rw [State.evaluateHeld, if_pos (lacking_any.mpr h)]

/-- With room at every sharer the foreign write is applied (R120). -/
theorem evaluateHeld_applied (h : s.roomFor x.sharers l) : s.evaluateHeld l w x = s.foreignInvalidate l w x := by
  rw [State.evaluateHeld, if_neg (fun hany => lacking_any.mp hany h)]

/-- All that a foreign write changes on a held line (R93, R120, R123). -/
theorem foreignInvalidate_eq (s : State) (l : LineAddr) (w : WayIdx) (x : Held) :
    s.foreignInvalidate l w x = { s with
      fifo := { lines := s.fifo.lines.tail, deferred := none }
      notices := s.notified .invalidate l x.sharers
      dir := s.withInvalid (setOf l) w
      res := mapAll s.res fun y => if reserves l y then none else y
      sweep := s.sweep.wayChanged (setOf l) w
      events := s.conflicted l (s.entry (setOf l) w).dirtyRegion? } := by
  rw [State.foreignInvalidate, recordConflict_eq, invalidate_eq]
  rfl

end Foreign

/-- Settles O44, by whether the FIFO has room. -/
theorem foreignWriteJoinsFifo : Obligations.ForeignWriteJoinsFifo := by
  unfold Obligations.ForeignWriteJoinsFifo
  refine fun a s hp => ⟨fun room => ?_, fun full => ?_⟩
  · rw [exec_foreignWrite_eq, happen_of hp (ForeignFifo.hasRoom_iff.mpr room)]
    rfl
  · have hfull : s.fifo.hasRoom = false := by
      rw [← Bool.not_eq_true, ForeignFifo.hasRoom_iff]
      exact Nat.not_lt.mpr full
    rw [exec_foreignWrite_eq, happen_not hfull]

/-- Settles O45, by the state of the line, and of a held line by whether every sharer has room. -/
theorem evaluationAppliesOrDefersForeignWrite : Obligations.EvaluationAppliesOrDefersForeignWrite := by
  unfold Obligations.EvaluationAppliesOrDefersForeignWrite
  refine ⟨fun s l ls hp hl hd => ?_, fun s => exec_evaluation_idle⟩
  have htail : s.quiet.fifo.lines.tail = ls := by rw [State.quiet_fifo, hl, List.tail_cons]
  rw [exec_evaluation hp hl hd]
  refine ⟨fun habsent => ?absent, fun w tag r i f hw he hf => ?filling,
    fun w x hx => ⟨fun hroom => ?deferred, fun hroom => ?applied⟩⟩
  case absent =>
    rw [evaluateLine_absent (s := s.quiet) habsent, recordConflict_popForeign, htail, conflicted_none]
    rfl
  case filling =>
    rw [evaluateLine_filling (s := s.quiet) hw he, taint_eq (s := s.quiet) hf, recordConflict_popForeign, htail,
      conflicted_none]
    rfl
  case deferred =>
    rw [evaluateLine_hits (s := s.quiet) hx, evaluateHeld_deferred (s := s.quiet) hroom]
    rfl
  case applied =>
    have hheld : (s.quiet.entry (setOf l) w).held? = some x := hx.2
    rw [evaluateLine_hits (s := s.quiet) hx, evaluateHeld_applied (s := s.quiet) hroom, foreignInvalidate_eq, htail,
      Entry.dirtyRegion?_of_held hheld, apply_ite (s.quiet.conflicted l), conflicted_none, conflicted_some]
    rfl

end Sys2Proof.Machine

/-! ## Port operations and transfers in mid-operation

How a port operation is made and joins the queue (R145, R149), and what an answer does that ends no operation: the ACK
of a transfer that is not the head's last (R140), and any answer to an orphan transfer or to none (R136, R196). -/

namespace Sys2Proof.Machine

/-! ### Port operations (R145, R149) -/

section PortOps

variable {d : DevicePort} {k : Port}

/-- At a FREE place a port operation joins the tail, and the place becomes ACTIVE (R145). -/
theorem submit_free (regions : Vector Region 8) (h : d.places[k] = .free) (op : Operation) :
    d.submit regions k op = ({ d with places := setAt d.places k .active } : DevicePort).join regions op := by
  simp only [DevicePort.submit, h]

/-- At an ORPHANED place it is parked (R149). -/
theorem submit_orphaned (regions : Vector Region 8) {parked : Option Operation} (h : d.places[k] = .orphaned parked)
    (op : Operation) : d.submit regions k op = { d with places := setAt d.places k (.orphaned (some op)) } := by
  simp only [DevicePort.submit, h]

/-- An IDLE Device Port turns to the head as an operation joins (R136). -/
theorem join_idle (regions : Vector Region 8) (h : d.phase = .idle) (op : Operation) :
    d.join regions op = d.turnTo regions (d.queue ++ [op]) :=
  kick_idle (d := { d with queue := d.queue ++ [op] }) regions h

/-- Any other is left as it is. -/
theorem join_of_ne (regions : Vector Region 8) (h : d.phase ≠ .idle) (op : Operation) :
    d.join regions op = { d with queue := d.queue ++ [op] } :=
  kick_of_ne (d := { d with queue := d.queue ++ [op] }) regions h

/-- A port operation is for its transaction's region and line (R145). -/
theorem portOp_target (q : Request) (wt : Bool) :
    (q.portOp wt).region = q.region ∧ (q.portOp wt).line = q.txn.line := by
  unfold Request.portOp
  split <;> exact ⟨rfl, rfl⟩

end PortOps

/-- Settles O30: the queue by the place and the Device Port's state, the operation's shape by the transaction's kind. -/
theorem portOperationJoinsQueueOrIsParked : Obligations.PortOperationJoinsQueueOrIsParked := by
  unfold Obligations.PortOperationJoinsQueueOrIsParked
  refine ⟨fun d regions k op => ⟨fun hfree hidle => ?_, fun hfree hbusy => ?_,
    fun parked h => submit_orphaned regions h op⟩, fun q wt => ?_⟩
  · rw [submit_free regions hfree]
    exact join_idle (d := { d with places := setAt d.places k .active }) regions hidle op
  · rw [submit_free regions hfree]
    exact join_of_ne (d := { d with places := setAt d.places k .active }) regions hbusy op
  · obtain ⟨hregion, hline⟩ := portOp_target q wt
    refine ⟨hregion, hline, (portOp_port q wt).2, fun hk => ?_, fun hk => ?_, fun hk => ?_, fun hk => ?_⟩
    · simp only [Request.portOp, hk, and_self]
    · simp only [Request.portOp, hk, and_self]
    · obtain hk | hk := hk <;> simp [Request.portOp, hk]
    · simp only [Request.portOp, hk, and_self]

/-! ### ACK of a transfer that is not the last (R140) -/

section Ack

variable {s : State} {op : Operation} {q : List Operation} {now next : Transfer} {timer : Nat} {rest : List Transfer}
  {gathered : Word} {kept : List Word}

/-- The state in which the count of region `r` has returned to 0 and the transfer `next` is presented, with `rest`
behind it and the bytes `w` of the present word (R139, R140). -/
def State.movedOn (s : State) (r : RegionId) (next : Transfer) (rest : List Transfer) (w : Word) (kept : List Word) :
    State :=
  { s with
    out := outputs []
    regions := s.withCount r 0
    dev := { s.dev with phase := .busy next s.regions[next.region].cfg.readyTimeout.toNat rest w kept } }

/-- The count returns to 0 and the next transfer is presented. -/
theorem presentNext_counted (s : State) (r : RegionId) (next : Transfer) (rest : List Transfer) (w : Word)
    (kept : List Word) :
    (s.quiet.setCount r 0).presentNext next rest w kept = s.movedOn r next rest w kept := by
  rw [State.movedOn, ← withCount_cfg s r next.region 0]
  rfl

/-- The head's ACK in mid-operation, by whether the transfer ends its word. -/
theorem exec_ack_next (h : s.underWay op q now timer (next :: rest) gathered kept) (data : Word) :
    exec (.ack data) s = .next (if now.endsWord
      then (s.quiet.setCount now.region 0).ackWord op (next :: rest) (gather op now gathered data) kept
      else (s.quiet.setCount now.region 0).presentNext next rest (gather op now gathered data) kept) := by
  obtain ⟨hpin, hq, hphase⟩ := h
  have hpresents : s.dev.phase.presents = true := by rw [hphase]; rfl
  refine (happen_of (f := fun s => s.acked data) hpin hpresents).trans (congrArg _ ?_)
  simp only [State.acked, State.quiet_dev, hphase, hq, State.ackHead]

/-- A transfer inside its word: the bytes so far are carried on. -/
theorem exec_ack_inside (h : s.underWay op q now timer (next :: rest) gathered kept) (he : now.endsWord = false)
    (data : Word) :
    exec (.ack data) s = .next (s.movedOn now.region next rest (gather op now gathered data) kept) := by
  rw [exec_ack_next h, he, if_neg Bool.false_ne_true, presentNext_counted]

/-- A transfer that ends its word: the word is handed on, and the next word begins. -/
theorem exec_ack_word (h : s.underWay op q now timer (next :: rest) gathered kept) (he : now.endsWord = true)
    (data : Word) : exec (.ack data) s = .next
      (((s.quiet.setCount now.region 0).receive op (gather op now gathered data)).presentNext next rest 0
        (keepWord op kept (gather op now gathered data))) := by
  rw [exec_ack_next h, he, if_pos rfl, State.ackWord]

/-- An operation that is no fill hands its words to no slot (R140). -/
theorem receive_of_ne (s : State) (hk : ∀ i, op.kind ≠ .fill i) (w : Word) : s.receive op w = s := by
  cases hop : op.kind with
  | fill i => exact absurd hop (hk i)
  | _ => simp only [State.receive, hop]

/-- A fill's word joins its slot's received words (R54, R140). -/
theorem receive_fill {i : SlotId} {f : Fill} (hk : op.kind = .fill i) (hf : s.slots[i] = some f) (w : Word) :
    s.receive op w = { s with slots := setAt s.slots i (some { f with received := f.received ++ [w] }) } := by
  simp only [State.receive, hk, hf, Option.map_some]

/-- A transfer that ends a word of an operation other than a fill. -/
theorem exec_ack_word_of_ne (h : s.underWay op q now timer (next :: rest) gathered kept) (he : now.endsWord = true)
    (hk : ∀ i, op.kind ≠ .fill i) (data : Word) :
    exec (.ack data) s =
      .next (s.movedOn now.region next rest 0 (keepWord op kept (gather op now gathered data))) := by
  rw [exec_ack_word h he, receive_of_ne _ hk, presentNext_counted]

/-- A transfer that ends a word of a fill. -/
theorem exec_ack_word_fill {i : SlotId} {f : Fill} (h : s.underWay op q now timer (next :: rest) gathered kept)
    (he : now.endsWord = true) (hk : op.kind = .fill i) (hf : s.slots[i] = some f) (data : Word) :
    exec (.ack data) s = .next { s.movedOn now.region next rest 0 kept with
      slots := setAt s.slots i (some { f with received := f.received ++ [gather op now gathered data] }) } := by
  have hkept (w : Word) : keepWord op kept w = kept := by rw [keepWord, hk]; rfl
  rw [exec_ack_word h he, hkept, receive_fill (s := s.quiet.setCount now.region 0) hk hf, ← presentNext_counted]
  rfl

/-- A write takes no data (R137, R140). -/
theorem gather_write (hk : op.kind.isWrite = true) (data : Word) : gather op now gathered data = 0 := by
  rw [gather, hk]
  rfl

end Ack

/-- Settles O34, by whether the transfer ends its word, and then by the kind of the head. -/
theorem ackRecordsTransferAndPresentsNext : Obligations.AckRecordsTransferAndPresentsNext := by
  unfold Obligations.AckRecordsTransferAndPresentsNext
  intro data s op q now next timer rest gathered kept h time word
  refine ⟨fun he hread => ?_, fun he hwrite => ?_, fun he hwrite => ?_, fun he hk => ?_, fun i f he hk hf => ?_⟩
  · rw [exec_ack_inside h he, gather_read hread]
    rfl
  · rw [exec_ack_inside h he, gather_write hwrite]
    rfl
  · have hfill : ∀ i, op.kind ≠ .fill i := fun i hk => by rw [hk] at hwrite; cases hwrite
    have hkept (w : Word) : keepWord op kept w = kept := by
      cases hop : op.kind with
      | drain p | portWrite k wt => rw [keepWord, hop]; rfl
      | _ => rw [hop] at hwrite; cases hwrite
    rw [exec_ack_word_of_ne h he hfill, hkept]
    rfl
  · have hread : op.kind.isWrite = false := by obtain hk | ⟨k, hk⟩ := hk <;> rw [hk] <;> rfl
    have hfill : ∀ i, op.kind ≠ .fill i := by obtain hk | ⟨k, hk⟩ := hk <;> simp [hk]
    have hkept (w : Word) : keepWord op kept w = kept ++ [w] := by
      obtain hk | ⟨k, hk⟩ := hk <;> rw [keepWord, hk] <;> rfl
    rw [exec_ack_word_of_ne h he hfill, hkept, gather_read hread]
    rfl
  · rw [exec_ack_word_fill h he hk hf, gather_read (by rw [hk]; rfl)]
    rfl

/-! ### Orphan transfers (R136, R196) -/

section Orphans

variable {s : State} {orphan : Transfer} {timer : Nat}

/-- An orphan transfer leaves the bus, and the Device Port turns to the head (R136). -/
theorem endOrphan_eq (s : State) : s.endOrphan = { s with dev := s.dev.turnTo s.regions s.dev.queue } := rfl

theorem acked_orphan (h : s.dev.phase = .clearing orphan timer) (data : Word) : s.acked data = s.endOrphan := by
  simp only [State.acked, h]

theorem errored_orphan (h : s.dev.phase = .clearing orphan timer) : s.errored = s.endOrphan := by
  simp only [State.errored, h]

theorem timedOut_orphan (h : s.dev.phase = .clearing orphan timer) : s.timedOut = s.endOrphan := by
  simp only [State.timedOut, h]

theorem exec_ack_eq (data : Word) (s : State) :
    exec (.ack data) s = happen s s.dev.phase.presents fun s => s.acked data := rfl

theorem exec_err_eq (withAck : Bool) (s : State) :
    exec (.err withAck) s = happen s s.dev.phase.presents State.errored := rfl

theorem exec_readyTimeout_eq (s : State) : exec .readyTimeout s =
    happen s (s.runsOut s.dev.phase.left) fun s => (s.elapse (s.dev.phase.left.getD 0)).timedOut := rfl

/-- The ready timer of an orphan transfer runs out (R136, R197). -/
theorem exec_readyTimeout_orphan (hp : s.porPin = false) (h : s.dev.phase = .clearing orphan timer)
    (hs : s.noneSooner timer) : exec .readyTimeout s = .next (s.quiet.elapse timer).endOrphan := by
  have hleft : s.dev.phase.left = some timer := by rw [h]; rfl
  have helapsed : (s.quiet.elapse timer).dev.phase = .clearing orphan (timer - timer) := congrArg (DevPhase.age timer) h
  rw [exec_readyTimeout_eq, happen_runsOut hp hleft hs, State.quiet_dev, hleft, Option.getD_some,
    timedOut_orphan helapsed]

end Orphans

/-- Settles O40, by the answer. -/
theorem orphanAnswersAreDiscarded : Obligations.OrphanAnswersAreDiscarded := by
  unfold Obligations.OrphanAnswersAreDiscarded
  refine ⟨fun data withAck s orphan timer hp h => ?_, fun data withAck s h => ?_, fun s => rfl⟩
  · have hpresents : s.dev.phase.presents = true := by rw [h]; rfl
    have hleft : s.dev.phase.left = some timer := by rw [h]; rfl
    refine ⟨?_, ?_, fun hs => ?_, fun hs => ?_⟩
    · rw [exec_ack_eq, happen_of hp hpresents, acked_orphan (s := s.quiet) h]
      rfl
    · rw [exec_err_eq, happen_of hp hpresents, errored_orphan (s := s.quiet) h]
      rfl
    · rw [exec_readyTimeout_orphan hp h hs, endOrphan_eq]
      rfl
    · rw [exec_readyTimeout_eq, happen_runsOut_later hleft hs]
  · have hpresents : s.dev.phase.presents = false := by rw [h]; rfl
    have hleft : s.dev.phase.left = none := by rw [h]; rfl
    refine ⟨?_, ?_, ?_⟩
    · rw [exec_ack_eq, happen_not hpresents]
    · rw [exec_err_eq, happen_not hpresents]
    · rw [exec_readyTimeout_eq, happen_runsOut_stopped hleft]

end Sys2Proof.Machine

/-! ## Transfers of an operation, and the device bus

The transfers of a word are those of the units that hold a needed lane, in the units' order (R137); what each carries is
said of the list of units, and which units those are by the device's width. -/

namespace Sys2Proof.Machine

section Transfers

variable {r : RegionId} {write : Bool} {l : LineAddr} {i : WordIdx} {need : Lanes} {d : Word}

/-- Each transfer is that of a unit. -/
theorem mem_transfersOfUnits {us : List (Lanes × BitVec 2)} {x : Transfer}
    (h : x ∈ transfersOfUnits r write l i need d us) :
    ∃ u ∈ us, ∃ last, x = transferOfUnit r write l i need d last u := by
  induction us with
  | nil => cases h
  | cons u us ih =>
    cases us with
    | nil => exact ⟨u, List.mem_cons_self, true, List.mem_singleton.mp h⟩
    | cons v us =>
      obtain rfl | h := List.mem_cons.mp h
      · exact ⟨u, List.mem_cons_self, false, rfl⟩
      · obtain ⟨x, hx, hlast⟩ := ih h
        exact ⟨x, List.mem_cons_of_mem u hx, hlast⟩

/-- Each unit has one transfer, at its address and with the needed lanes of it. -/
theorem transfersOfUnits_map (us : List (Lanes × BitVec 2)) :
    (transfersOfUnits r write l i need d us).map (fun x => (x.addr, x.lanes)) =
      (us.map fun u => (u.2, u.1 &&& need)).map (Prod.map (byteAddr l i) id) := by
  induction us with
  | nil => rfl
  | cons u us ih =>
    cases us with
    | nil => rfl
    | cons v us => exact congrArg (_ :: ·) ih

theorem transfersOfUnits_length (us : List (Lanes × BitVec 2)) :
    (transfersOfUnits r write l i need d us).length = us.length := by
  have hmap := congrArg List.length (transfersOfUnits_map (r := r) (write := write) (l := l) (i := i) (need := need)
    (d := d) us)
  simpa only [List.length_map] using hmap

/-- The last transfer alone ends the word. -/
theorem transfersOfUnits_endsWord {us : List (Lanes × BitVec 2)} (h : us ≠ []) :
    ∃ n, (transfersOfUnits r write l i need d us).map (·.endsWord) = List.replicate n false ++ [true] := by
  induction us with
  | nil => exact absurd rfl h
  | cons u us ih =>
    cases us with
    | nil => exact ⟨0, rfl⟩
    | cons v us =>
      obtain ⟨n, hn⟩ := ih (List.cons_ne_nil v us)
      exact ⟨n + 1, congrArg (false :: ·) hn⟩

/-! ### The units moved at each width (R137) -/

/-- A lane that is needed stands in some unit. -/
theorem unitsMoved_ne_nil (w : Width) (h : need ≠ 0) : unitsMoved w need ≠ [] := by
  have hcover : ∀ m : Lanes, m ≠ 0 → unitsMoved .w8 m ≠ [] ∧ unitsMoved .w16 m ≠ [] ∧ unitsMoved .w32 m ≠ [] := by
    decide
  obtain ⟨h8, h16, h32⟩ := hcover need h
  cases w <;> assumption

theorem unitsMoved_w32 (m : Lanes) :
    (unitsMoved .w32 m).map (fun u => (u.2, u.1 &&& m)) = if m = 0 then [] else [(0, m)] := by
  revert m
  decide

theorem unitsMoved_w16 (m : Lanes) : (unitsMoved .w16 m).map (fun u => (u.2, u.1 &&& m)) =
    (if m &&& 0b0011 = 0 then [] else [(0, m &&& 0b0011)]) ++
      if m &&& 0b1100 = 0 then [] else [(2, m &&& 0b1100)] := by
  revert m
  decide

theorem unitsMoved_w8 (m : Lanes) : (unitsMoved .w8 m).map (fun u => (u.2, u.1 &&& m)) =
    (if m.getLsbD 0 then [(0, 0b0001)] else []) ++ (if m.getLsbD 1 then [(1, 0b0010)] else []) ++
      (if m.getLsbD 2 then [(2, 0b0100)] else []) ++ if m.getLsbD 3 then [(3, 0b1000)] else [] := by
  revert m
  decide

/-! ### The transfers of an operation (R137, R138) -/

variable {op : Operation}

theorem transfers_word {m : Lanes} (h : op.extent = .word i m) (w : Width) :
    op.transfers w = transfersOfUnits op.region op.kind.isWrite op.line i m op.data[i] (unitsMoved w m) := by
  simp only [Operation.transfers, h, Extent.words, List.flatMap_singleton]

/-- A line is moved word by word, every lane of each (R138). -/
theorem transfers_line {c : WordIdx} (h : op.extent = .line c) (w : Width) :
    op.transfers w = (wrapOrder c).flatMap fun i => Operation.transfers { op with extent := .word i 0b1111 } w := by
  simp only [Operation.transfers, h, Extent.words, List.flatMap_map, List.flatMap_singleton]

/-- A whole word takes as many transfers as the width has units. -/
theorem transfers_line_length {c : WordIdx} (h : op.extent = .line c) (w : Width) :
    (op.transfers w).length = 8 * (unitsMoved w 0b1111).length := by
  have hword (i : WordIdx) : (Operation.transfers { op with extent := .word i 0b1111 } w).length =
      (unitsMoved w 0b1111).length := by
    rw [transfers_word (op := { op with extent := .word i 0b1111 }) rfl, transfersOfUnits_length]
  have hwords : (wrapOrder c).length = 8 := rfl
  rw [transfers_line h, List.length_flatMap, List.map_congr_left fun i _ => hword i, List.map_const', hwords,
    List.sum_replicate, smul_eq_mul]

end Transfers

/-! ### The device bus (R136, R137, R195, R196) -/

/-- The lanes of `m` come from the new word. -/
theorem mergeLanes_inside (m : Lanes) (old new : Word) : mergeLanes m old new &&& byteMask m = new &&& byteMask m := by
  ext n
  simp only [mergeLanes, BitVec.getElem_and, BitVec.getElem_or, BitVec.getElem_not]
  cases (byteMask m)[n] <;> simp

/-- The other lanes come from the old one. -/
theorem mergeLanes_outside (m : Lanes) (old new : Word) :
    mergeLanes m old new &&& ~~~byteMask m = old &&& ~~~byteMask m := by
  ext n
  simp only [mergeLanes, BitVec.getElem_and, BitVec.getElem_or, BitVec.getElem_not]
  cases (byteMask m)[n] <;> simp

theorem mergeLanes_none (old new : Word) : mergeLanes 0 old new = old := by
  have hmask : byteMask 0 = 0#32 := by decide
  rw [mergeLanes, hmask, BitVec.not_zero, BitVec.and_allOnes, BitVec.and_zero, BitVec.or_zero]

/-- Settles O41: a word by its units, a line by its words, the bus by the Device Port's state. -/
theorem transfersFollowDeviceWidth : Obligations.TransfersFollowDeviceWidth := by
  unfold Obligations.TransfersFollowDeviceWidth
  refine ⟨fun op i m w h => ⟨fun x hx => ?_, fun hm => ?_⟩, fun op i m h => ⟨?_, ?_, ?_⟩,
    fun op c w h => ⟨transfers_line h w, ?_, ?_, ?_⟩, fun s => ⟨?_, ?_, ?_⟩, fun x => ⟨fun hx => ?_, fun hx => ?_⟩⟩
  · rw [transfers_word h] at hx
    obtain ⟨u, -, last, rfl⟩ := mem_transfersOfUnits hx
    exact ⟨rfl, rfl, rfl⟩
  · rw [transfers_word h]
    exact transfersOfUnits_endsWord (unitsMoved_ne_nil w hm)
  · rw [transfers_word h, transfersOfUnits_map, unitsMoved_w32, apply_ite (List.map _)]
    rfl
  · simp only [transfers_word h, transfersOfUnits_map, unitsMoved_w16, List.map_append, apply_ite (List.map _)]
    rfl
  · simp only [transfers_word h, transfersOfUnits_map, unitsMoved_w8, List.map_append, apply_ite (List.map _)]
    rfl
  · exact transfers_line_length h .w32
  · exact transfers_line_length h .w16
  · exact transfers_line_length h .w8
  · rintro (hp | hidle)
    · rw [State.busTransfer, if_pos hp]
    · rw [State.busTransfer, hidle, DevPhase.presented, ite_self]
  · intro now timer rest gathered kept hp hbusy
    rw [State.busTransfer, hp, hbusy]
    rfl
  · intro orphan timer hp hclearing
    rw [State.busTransfer, hp, hclearing]
    rfl
  · rw [Transfer.busData, if_pos hx]
    exact ⟨mergeLanes_inside x.lanes _ _, mergeLanes_outside x.lanes _ _⟩
  · rw [Transfer.busData, hx, if_neg Bool.false_ne_true, mergeLanes_none]

end Sys2Proof.Machine

/-! ## REGION groups, ENABLE and DISABLE

A write to a REGION group does what `RegionConfig.write` says of the word (R130, R186); the checks of ENABLE and DISABLE
are told in the terms of R131 and R132. -/

namespace Sys2Proof.Machine

section RegionWrites

variable {s : State} {k : Port} {n : RegionId} {i : Fin 4} {v : Word}

/-- A region is enabled unless it is DISABLED (R20). -/
theorem Region.enabled_iff {g : Region} : g.enabled = true ↔ g.health ≠ .disabled := by
  rw [Region.enabled, bne_iff_ne]

theorem Region.enabled_eq_false {g : Region} : g.enabled = false ↔ g.health = .disabled := by
  rw [← Bool.not_eq_true, Region.enabled_iff, not_not]

/-- REGION has the effect of its register. -/
theorem exec_region (h : s.writes k (.regionWord n i) v) :
    exec .region s = .next ((s.taken k).writeRegion n i k v) :=
  (exec_write_eq_row h rfl).symm.trans (exec_write_window h)

/-- A write to an enabled region's group is refused (R130). -/
theorem exec_region_enabled (h : s.writes k (.regionWord n i) v) (hn : s.regions[n].health ≠ .disabled) :
    exec .region s = .next (s.answering k (.fault .control)) := by
  have henabled : (s.taken k).regions[n].enabled = true := Region.enabled_iff.mpr hn
  rw [exec_region h, State.writeRegion, if_pos henabled]
  exact congrArg _ (taken_respond s k _)

/-- A write to a DISABLED region's group, by whether its values are in range (R130, R186). -/
theorem exec_region_disabled (h : s.writes k (.regionWord n i) v) (hn : s.regions[n].health = .disabled) :
    exec .region s = .next (match s.regions[n].cfg.write i v with
      | none => s.answering k (.fault .control)
      | some c => (s.setRegion n { s.regions[n] with cfg := c }).answering k (.done .nothing)) := by
  have hdisabled : ¬(s.taken k).regions[n].enabled = true := fun he => Region.enabled_iff.mp he hn
  have hcfg : (s.taken k).regions[n].cfg = s.regions[n].cfg := rfl
  rw [exec_region h, State.writeRegion, if_neg hdisabled, hcfg]
  cases s.regions[n].cfg.write i v with
  | none => exact congrArg _ (taken_respond s k _)
  | some c => exact congrArg _ (taken_respond (s.setRegion n { s.regions[n] with cfg := c }) k _)

/-- Values in range are written. -/
theorem exec_region_written (h : s.writes k (.regionWord n i) v) (hn : s.regions[n].health = .disabled)
    {c : RegionConfig} (hc : s.regions[n].cfg.write i v = some c) :
    exec .region s = .next { s.answering k (.done .nothing) with
      regions := setAt s.regions n { s.regions[n] with cfg := c } } := by
  rw [exec_region_disabled h hn, hc]
  rfl

/-- A value out of range is refused. -/
theorem exec_region_refused (h : s.writes k (.regionWord n i) v) (hn : s.regions[n].health = .disabled)
    (hc : s.regions[n].cfg.write i v = none) : exec .region s = .next (s.answering k (.fault .control)) := by
  rw [exec_region_disabled h hn, hc]

/-! ### The words of a REGION group (R186) -/

variable (c : RegionConfig)

theorem write_base (v : Word) :
    c.write 0 v = if v.extractLsb' 0 12 = 0 then some { c with base := pageOf v } else none := rfl

theorem write_limit (v : Word) :
    c.write 1 v = if v.extractLsb' 0 12 = 0 then some { c with limit := pageOf v } else none := rfl

theorem write_probeOffset (v : Word) :
    c.write 3 v = if v.extractLsb' 0 2 = 0 then some { c with probeOffset := v } else none := rfl

/-- A width's code names it (R186). -/
theorem widthOfCode_of {x : BitVec 2} {width : Width} (h : x.toNat = width.code) : widthOfCode x = some width := by
  have hcodes : ∀ x : BitVec 2, (x.toNat = 1 → widthOfCode x = some .w8) ∧ (x.toNat = 2 → widthOfCode x = some .w16) ∧
      (x.toNat = 3 → widthOfCode x = some .w32) := by decide
  obtain ⟨h8, h16, h32⟩ := hcodes x
  cases width with
  | w8 => exact h8 h
  | w16 => exact h16 h
  | w32 => exact h32 h

/-- The fields of word 2, each in range. -/
theorem write_fields {width : Width} (hw : (v.extractLsb' 0 2).toNat = width.code) (ht : v.extractLsb' 4 8 ≠ 0)
    (ho : v.extractLsb' 12 3 ≠ 0) (hp : v.extractLsb' 16 8 ≠ 0) : c.write 2 v = some { c with
      width := width, cacheable := v.getLsbD 2, writeThrough := v.getLsbD 3,
      readyTimeout := v.extractLsb' 4 8, threshold := v.extractLsb' 12 3, probeInterval := v.extractLsb' 16 8 } := by
  have hrange : ¬(v.extractLsb' 4 8 = 0 || v.extractLsb' 12 3 = 0 || v.extractLsb' 16 8 = 0) = true := by
    simp only [Bool.or_eq_true, decide_eq_true_eq, ht, ho, hp, or_self, not_false_eq_true]
  simp only [RegionConfig.write, widthOfCode_of hw, if_neg hrange]
  rfl

/-- A field of word 2 out of range. -/
theorem write_fields_refused (h : v.extractLsb' 0 2 = 0 ∨ v.extractLsb' 4 8 = 0 ∨ v.extractLsb' 12 3 = 0 ∨
    v.extractLsb' 16 8 = 0) : c.write 2 v = none := by
  obtain hw | hfield := h
  · have hnone : widthOfCode (v.extractLsb' 0 2) = none := by rw [hw]; rfl
    simp only [RegionConfig.write, hnone]
    rfl
  · have hrange : (v.extractLsb' 4 8 = 0 || v.extractLsb' 12 3 = 0 || v.extractLsb' 16 8 = 0) = true := by
      simpa only [Bool.or_eq_true, decide_eq_true_eq, or_assoc] using hfield
    cases hw : widthOfCode (v.extractLsb' 0 2) <;> simp only [RegionConfig.write, hw, if_pos hrange] <;> rfl

end RegionWrites

/-- Settles O55, by the region's health and then by the word written. -/
theorem regionWriteSetsConfiguration : Obligations.RegionWriteSetsConfiguration := by
  unfold Obligations.RegionWriteSetsConfiguration
  intro s k n i v h cfg wrote refused
  refine ⟨exec_region_enabled h, fun hn => ⟨?_, ?_, ?_, ?_, ?_⟩⟩
  · rintro rfl
    split
    · next hv => exact exec_region_written h hn (by rw [write_base, if_pos hv]; rfl)
    · next hv => exact exec_region_refused h hn (by rw [write_base, if_neg hv])
  · rintro rfl
    split
    · next hv => exact exec_region_written h hn (by rw [write_limit, if_pos hv]; rfl)
    · next hv => exact exec_region_refused h hn (by rw [write_limit, if_neg hv])
  · rintro rfl width hw ht ho hp
    exact exec_region_written h hn (write_fields cfg hw ht ho hp)
  · rintro rfl hfield
    exact exec_region_refused h hn (write_fields_refused cfg hfield)
  · rintro rfl
    split
    · next hv => exact exec_region_written h hn (by rw [write_probeOffset, if_pos hv])
    · next hv => exact exec_region_refused h hn (by rw [write_probeOffset, if_neg hv])

/-! ### ENABLE (R131) -/

section Enable

/-- Two ranges share an address where a page lies in both (R131). -/
theorem overlaps_iff {a b : RegionConfig} : a.overlaps b = true ↔
    ∃ page : Tag, a.base ≤ page ∧ page ≤ a.limit ∧ b.base ≤ page ∧ page ≤ b.limit := by
  simp only [RegionConfig.overlaps, Bool.and_eq_true, decide_eq_true_eq]
  constructor
  · rintro ⟨⟨⟨ha, hb⟩, hab⟩, hba⟩
    obtain hle | hle := BitVec.le_total a.base b.base
    · exact ⟨b.base, hle, hba, BitVec.le_refl _, hb⟩
    · exact ⟨a.base, BitVec.le_refl _, ha, hle, hab⟩
  · rintro ⟨page, ha, ha', hb, hb'⟩
    exact ⟨⟨⟨BitVec.le_trans ha ha', BitVec.le_trans hb hb'⟩, BitVec.le_trans ha hb'⟩, BitVec.le_trans hb ha'⟩

/-- ENABLE fails a check of R131. -/
theorem enableRefused_iff {s : State} {r : RegionId} : s.enableRefused r = true ↔
    s.regions[r].cfg.limit < s.regions[r].cfg.base ∨
      s.regions[r].cfg.size ≤ s.regions[r].cfg.probeOffset.toNat ∨
      (s.regions[r].cfg.base ≤ 0xFFFFF ∧ s.regions[r].cfg.limit = 0xFFFFF) ∨
      ∃ n : RegionId, n ≠ r ∧ s.regions[n].health ≠ .disabled ∧ ∃ page : Tag, s.regions[r].cfg.base ≤ page ∧
        page ≤ s.regions[r].cfg.limit ∧ s.regions[n].cfg.base ≤ page ∧ page ≤ s.regions[n].cfg.limit := by
  have hmem : ∀ n : RegionId, n ∈ allRegions := by decide
  have hlast : ∀ x : Tag, (0xFFFFF : Tag) ≤ x ↔ x = 0xFFFFF := fun x => by bv_omega
  simp only [State.enableRefused, Bool.or_eq_true, decide_eq_true_eq, List.any_eq_true, hmem, true_and,
    Bool.and_eq_true, bne_iff_ne, Region.enabled_iff, overlaps_iff, RegionConfig.covers, hlast, or_assoc, and_assoc]

/-- The size of a range that is not empty (R129). -/
theorem size_of_le {c : RegionConfig} (h : c.base ≤ c.limit) :
    c.size = (c.limit.toNat - c.base.toNat + 1) * 4096 := by
  rw [RegionConfig.size, Nat.sub_add_comm (BitVec.le_def.mp h)]

variable {s : State} {k : Port} {v : Word} {r : RegionId}

/-- ENABLE, by the checks of R131 in order. -/
theorem exec_enable (h : s.writes k .regionCmd v) (hr : r.val = (v.extractLsb' 0 3).toNat)
    (hv : v.extractLsb' 8 3 = 1) : exec .enable s = .next (if s.regions[r].enabled then s.answering k (.done .nothing)
      else if s.enableRefused r then s.answering k (.fault .control)
      else (s.setRegion r { s.regions[r] with health := .online, count := 0, probeTimer := none }).answering k
        (.done .nothing)) := by
  obtain rfl : regionCmdRegion v = r := Fin.ext hr.symm
  have hcode : (regionCmdCode v == 1) = true := beq_iff_eq.mpr hv
  refine (takeWrite_of (effect := State.enableRegion) h rfl hcode).trans (congrArg _ ?_)
  rw [State.enableRegion, State.ok, State.refuse, State.ok, taken_respond, taken_respond]
  exact congrArg _ (congrArg _ (taken_respond (s.setRegion _ _) k _))

end Enable

/-! ### DISABLE (R132) -/

section Disable

variable {s : State} {k : Port} {v : Word} {r : RegionId}

/-- DISABLE, by the checks of R132 in order. -/
theorem exec_disable (h : s.writes k .regionCmd v) (hr : r.val = (v.extractLsb' 0 3).toNat)
    (hv : v.extractLsb' 8 3 = 2) : exec .disable s = .next (if !s.regions[r].enabled then s.answering k (.done .nothing)
      else if s.belongs r then s.answering k (.fault .control)
      else (s.setRegion r { s.regions[r] with health := .disabled, count := 0, probeTimer := none }).answering k
        (.done .nothing)) := by
  obtain rfl : regionCmdRegion v = r := Fin.ext hr.symm
  have hcode : (regionCmdCode v == 2) = true := beq_iff_eq.mpr hv
  refine (takeWrite_of (effect := State.disableRegion) h rfl hcode).trans (congrArg _ ?_)
  rw [State.disableRegion, State.ok, State.refuse, State.ok, taken_respond, taken_respond]
  exact congrArg _ (congrArg _ (taken_respond (s.setRegion _ _) k _))

/-- Some set has a way of region `r`. -/
theorem exists_hasRegion : (∃ d ∈ s.dir.toList, d.hasRegion r = true) ↔
    ∃ (si : SetIdx) (w : WayIdx), (s.entry si w).region? = some r := by
  have hmem : ∀ w : WayIdx, w ∈ allWays := by decide
  simp only [Vector.mem_toList_iff, DirSet.hasRegion, List.any_eq_true, hmem, true_and, beq_iff_eq]
  constructor
  · rintro ⟨d, hd, w, hw⟩
    obtain ⟨i, hi, rfl⟩ := Vector.mem_iff_getElem.mp hd
    exact ⟨⟨i, hi⟩, w, hw⟩
  · rintro ⟨si, w, hw⟩
    exact ⟨s.dir[si], Vector.getElem_mem si.isLt, w, hw⟩

theorem orphanOf_iff {p : DevPhase} : p.orphanOf r = true ↔ ∃ orphan timer, p = .clearing orphan timer ∧
    orphan.region = r := by
  cases p with
  | clearing orphan timer => simp [DevPhase.orphanOf]
  | _ => simp [DevPhase.orphanOf]

/-- Some parked operation is of region `r`. -/
theorem parkedOf_ne_nil {d : DevicePort} : (!(d.parkedOf r).isEmpty) = true ↔
    ∃ (j : Port) (op : Operation), d.places[j] = .orphaned (some op) ∧ op.region = r := by
  rw [Bool.not_eq_true', List.isEmpty_eq_false_iff_exists_mem]
  simp only [mem_parkedOf]
  exact ⟨fun ⟨op, ⟨j, hj⟩, hop⟩ => ⟨j, op, hj, hop⟩, fun ⟨j, op, hj, hop⟩ => ⟨op, ⟨j, hj⟩, hop⟩⟩

theorem reservesIn_iff {c : RegionConfig} {e : Option Reservation} : reservesIn c e = true ↔
    ∃ x, e = some x ∧ c.base ≤ tagOf x.line ∧ tagOf x.line ≤ c.limit := by
  cases e <;> simp [reservesIn, RegionConfig.covers]

/-- Something in the hub still belongs to region `r` (R132). -/
theorem belongs_iff : s.belongs r = true ↔
    (∃ (si : SetIdx) (w : WayIdx), (s.entry si w).region? = some r) ∨ (∃ e ∈ s.drains, e.region = r) ∨
      (∃ op ∈ s.dev.queue, op.region = r) ∨
      (∃ (j : Port) (op : Operation), s.dev.places[j] = .orphaned (some op) ∧ op.region = r) ∨
      (∃ orphan timer, s.dev.phase = .clearing orphan timer ∧ orphan.region = r) ∨
      ∃ (i : ResId) (x : Reservation), s.res[i] = some x ∧ s.regions[r].cfg.base ≤ tagOf x.line ∧
        tagOf x.line ≤ s.regions[r].cfg.limit := by
  have hmem : ∀ i : ResId, i ∈ allRes := by decide
  simp only [State.belongs, Bool.or_eq_true, List.any_eq_true, exists_hasRegion, parkedOf_ne_nil, orphanOf_iff,
    beq_iff_eq, Operation.ofRegion, hmem, true_and, reservesIn_iff, or_assoc]

end Disable

/-- Settles O56, by the checks of R131 and R132. -/
theorem enableAndDisableCheckRegion : Obligations.EnableAndDisableCheckRegion := by
  unfold Obligations.EnableAndDisableCheckRegion
  intro s k v r h hr g done refused shares belongs
  refine ⟨fun hv => ⟨fun hg => ?_, fun hg hrefused => ?_, fun hg hle hprobe hlast hshares => ?_⟩,
    fun hv => ⟨fun hg => ?_, fun hg hbelongs => ?_, fun hg hbelongs => ?_⟩⟩
  · rw [exec_enable h hr hv, if_pos (Region.enabled_iff.mpr hg)]
  · have hfails : s.enableRefused r = true := by
      refine enableRefused_iff.mpr (hrefused.imp_right (Or.imp_left fun ⟨hle, hprobe⟩ => ?_))
      rw [size_of_le hle]
      exact hprobe
    rw [exec_enable h hr hv, if_neg (by rw [Region.enabled_iff]; exact not_not.mpr hg), if_pos hfails]
  · have hpasses : ¬s.enableRefused r = true := by
      rw [enableRefused_iff, size_of_le hle]
      rintro (hempty | hoffset | ⟨-, hlimit⟩ | hshared)
      · exact absurd hle (BitVec.not_le.mpr hempty)
      · exact absurd hoffset (Nat.not_le.mpr hprobe)
      · exact hlast hlimit
      · exact hshares hshared
    rw [exec_enable h hr hv, if_neg (by rw [Region.enabled_iff]; exact not_not.mpr hg), if_neg hpasses]
    rfl
  · rw [exec_disable h hr hv, Region.enabled_eq_false.mpr hg]
    rfl
  · rw [exec_disable h hr hv, Region.enabled_iff.mpr hg, if_neg (by simp), if_pos (belongs_iff.mpr hbelongs)]
  · rw [exec_disable h hr hv, Region.enabled_iff.mpr hg, if_neg (by simp),
      if_neg fun hb => hbelongs (belongs_iff.mp hb)]
    rfl

end Sys2Proof.Machine

/-! ## What keeps the regions' configurations

Configuration fields are written by a write to a REGION group, and only while the entry is DISABLED (R130); power-on
reset apart, no other command writes them. Most operations keep the configuration of every region. -/

namespace Sys2Proof.Machine

/-- Every region's configuration is in `t` as it is in `s`. -/
def State.SameConfig (s t : State) : Prop := ∀ r : RegionId, t.regions[r].cfg = s.regions[r].cfg

/-- Every enabled region's configuration is in `t` as it is in `s`. -/
def State.KeepsEnabled (s t : State) : Prop :=
  ∀ r : RegionId, s.regions[r].health ≠ .disabled → t.regions[r].cfg = s.regions[r].cfg

section Rules

variable {s t u : State} {k : Port} {r : RegionId}

theorem State.SameConfig.refl (s : State) : s.SameConfig s := fun _ => rfl

theorem State.SameConfig.trans (h : s.SameConfig t) (g : t.SameConfig u) : s.SameConfig u :=
  fun r => (g r).trans (h r)

/-- Operations on other blocks. -/
theorem State.SameConfig.of_regions (h : t.regions = s.regions) : s.SameConfig t := fun _ => by rw [h]

theorem State.KeepsEnabled.of_same (h : s.SameConfig t) : s.KeepsEnabled t := fun r _ => h r

theorem State.SameConfig.respond (h : s.SameConfig t) (k : Port) (r : Response) : s.SameConfig (t.respond k r) := h

theorem State.SameConfig.record (h : s.SameConfig t) (e : Event) : s.SameConfig (t.record e) := h

theorem State.SameConfig.kick (h : s.SameConfig t) : s.SameConfig t.kick := h

/-- One region's entry is written, its configuration as it was. -/
theorem State.SameConfig.of_entry {g : Region} (ht : t.regions = setAt s.regions r g) (hg : g.cfg = s.regions[r].cfg) :
    s.SameConfig t := by
  intro j
  rw [ht, setAt_getElem]
  split
  · next hj => rw [hg, hj]
  · rfl

theorem elapse_sameConfig (s : State) (d : Nat) : s.SameConfig (s.elapse d) := fun r => elapse_cfg s d r

/-- Soft reset keeps every configuration (R150). -/
theorem softReset_sameConfig (s : State) (k : Port) : s.SameConfig (s.softReset k) := by
  intro r
  have hregion : (s.softReset k).regions[r] = s.regions[r].softReset := mapAll_getElem _ _ _
  rw [hregion, Region.softReset]
  split <;> rfl

/-! ### The directory leaves the region table -/

theorem State.MakesDrain.regions (h : s.MakesDrain t) : t.regions = s.regions := by
  cases h with
  | none same => exact same.regions
  | made _ kind l x same => exact same.regions

theorem State.Directs.regions {q : Request} (h : s.Directs q t) : t.regions = s.regions := by
  cases h with
  | settled settles => exact settles.keeps.regions
  | installed evicts r => exact evicts.regions
  | filling evicts w i _ => exact evicts.regions
  | joined i f _ => rfl

/-! ### So do the ends of operations that are no probes (R143, R144) -/

theorem answerAll_regions (s : State) (qs : List Request) (answer : Request → Response) :
    (s.answerAll qs answer).regions = s.regions := by
  rw [answerAll_eq]
  rfl

theorem serveAll_regions (s : State) (w : WayIdx) (qs : List Request) : (s.serveAll w qs).regions = s.regions :=
  List.foldlRecOn (motive := fun u : State => u.regions = s.regions) qs _ rfl fun u hu q _ =>
    (serve_settles u q w).keeps.regions.trans hu

theorem completeFill_regions (s : State) (i : SlotId) : (s.completeFill i).regions = s.regions := by
  unfold State.completeFill
  split
  · rfl
  · split
    · rw [State.taintedFill, State.setSlot_regions, State.invalidate_regions, answerAll_regions]
    · rw [State.installFill, State.setSlot_regions, serveAll_regions, State.setEntry_regions]

theorem failFill_regions (s : State) (i : SlotId) (c : FaultCause) : (s.failFill i c).regions = s.regions := by
  unfold State.failFill
  split
  · rfl
  · rw [State.setSlot_regions, State.invalidate_regions, answerAll_regions]

theorem failPortOp_regions (s : State) (op : Operation) (c : FaultCause) (how : LostHow) :
    (s.failPortOp op c how).regions = s.regions := by
  rw [failPortOp_eq]
  rfl

theorem handOnAll_regions (s : State) (queued parked : List Operation) :
    (s.handOnAll queued parked).regions = s.regions := by
  have hqueued : (queued.foldl State.handOn s).regions = s.regions :=
    List.foldlRecOn (motive := fun u : State => u.regions = s.regions) queued _ rfl fun u hu op _ => by
      rw [handOn_eq_fail, fail_eq]
      exact hu
  exact (handOnParked_foldl _ parked).2.trans hqueued

theorem loseDrain_regions (s : State) (p : DrainPlace) : (s.loseDrain p).regions = s.regions := by
  unfold State.loseDrain
  split <;> rfl

theorem drainTimedOut_regions (s : State) (op : Operation) (p : DrainPlace) (crossed : Bool) :
    (s.drainTimedOut op p crossed).regions = s.regions := by
  unfold State.drainTimedOut
  split
  · rfl
  · split <;> rfl

/-! ### Regions that depart and return, and the Device Port's answers -/

theorem startProbeTimer_sameConfig (s : State) (r : RegionId) : s.SameConfig (s.startProbeTimer r) :=
  fun x => startProbeTimer_cfg s r x

/-- A region comes ONLINE with its configuration (R133). -/
theorem comeOnline_sameConfig (s : State) (r : RegionId) (e : Event) : s.SameConfig (s.comeOnline r e) :=
  State.SameConfig.kick (.record (.of_entry (requeueDrains_regions (s.markOnline r) r) rfl) e)

/-- A region goes OFFLINE with its configuration, if what ends its cause keeps it (R144). -/
theorem goOffline_sameConfig (s : State) (r : RegionId) {first : State → State} (e : Event)
    (hfirst : ∀ u : State, u.SameConfig (first u)) : s.SameConfig (s.goOffline r first e) := by
  have hended : s.SameConfig (first (s.stripRegion r)) := hfirst (s.stripRegion r)
  have hmarked : s.SameConfig ((first (s.stripRegion r)).markOffline r) :=
    hended.trans fun x => markOffline_cfg _ r x
  have hall : s.SameConfig (((first (s.stripRegion r)).markOffline r).handOnAll
      (s.dev.queue.filter (Operation.ofRegion r)) (s.dev.parkedOf r)) :=
    hmarked.trans (.of_regions (handOnAll_regions _ _ _))
  exact ((hall.record e).trans (startProbeTimer_sameConfig _ r)).kick

theorem handSuccess_sameConfig (s : State) (op : Operation) (kept : List Word) :
    s.SameConfig (s.handSuccess op kept) := by
  unfold State.handSuccess
  split
  · exact .of_regions (completeFill_regions s _)
  · exact .refl s
  · exact .of_regions (answerOwner_regions s op _)
  · exact .of_regions (answerOwner_regions s op _)
  · exact comeOnline_sameConfig s _ _

theorem handError_sameConfig (s : State) (op : Operation) : s.SameConfig (s.handError op) := by
  unfold State.handError
  split
  · exact .of_regions (failFill_regions s _ _)
  · exact .of_regions (loseDrain_regions s _)
  · exact .of_regions (failPortOp_regions s op _ _)
  · exact .of_regions (failPortOp_regions s op _ _)
  · exact startProbeTimer_sameConfig s _

theorem handTimeout_sameConfig (s : State) (op : Operation) (crossed : Bool) :
    s.SameConfig (s.handTimeout op crossed) := by
  unfold State.handTimeout
  split
  · exact .of_regions (failFill_regions s _ _)
  · exact .of_regions (drainTimedOut_regions s op _ crossed)
  · exact .of_regions (failPortOp_regions s op _ _)
  · exact .of_regions (failPortOp_regions s op _ _)
  · exact startProbeTimer_sameConfig s _

/-- A count is no part of the configuration. -/
theorem setCount_sameConfig (s : State) (r : RegionId) (n : Nat) : s.SameConfig (s.setCount r n) :=
  .of_entry rfl rfl

theorem receive_regions (s : State) (op : Operation) (w : Word) : (s.receive op w).regions = s.regions := by
  unfold State.receive
  split <;> rfl

theorem ackWord_sameConfig (s : State) (op : Operation) (rest : List Transfer) (w : Word) (kept : List Word) :
    s.SameConfig (s.ackWord op rest w kept) := by
  have hreceived : s.SameConfig (s.receive op w) := .of_regions (receive_regions s op w)
  cases rest with
  | nil => exact hreceived.trans (handSuccess_sameConfig (s.receive op w).popHead op _)
  | cons x rest => exact hreceived

theorem acked_sameConfig (s : State) (data : Word) : s.SameConfig (s.acked data) := by
  unfold State.acked
  split
  · exact .refl s
  · exact .refl s
  · unfold State.ackHead
    split
    · exact (setCount_sameConfig s _ 0).trans (ackWord_sameConfig _ _ _ _ _)
    · split
      · exact (setCount_sameConfig s _ 0).trans (ackWord_sameConfig _ _ _ _ _)
      · exact setCount_sameConfig s _ 0
  · exact .refl s

theorem errored_sameConfig (s : State) : s.SameConfig s.errored := by
  unfold State.errored
  split
  · exact .refl s
  · exact .refl s
  · next now _ _ _ _ op _ _ _ =>
    exact (setCount_sameConfig s now.region 0).trans (handError_sameConfig (s.setCount now.region 0).popHead op)
  · exact .refl s

theorem timeoutHead_sameConfig (s : State) (op : Operation) (now : Transfer) : s.SameConfig (s.timeoutHead op now) := by
  have hcounted : s.SameConfig (s.setCount now.region s.regions[now.region].countUp).popHead :=
    setCount_sameConfig s now.region _
  unfold State.timeoutHead
  split
  · exact hcounted.trans (goOffline_sameConfig _ _ _ fun u => handTimeout_sameConfig u op true)
  · exact hcounted.trans (handTimeout_sameConfig _ op false)

theorem timedOut_sameConfig (s : State) : s.SameConfig s.timedOut := by
  unfold State.timedOut
  split
  · exact .refl s
  · exact .refl s
  · exact timeoutHead_sameConfig s _ _
  · exact .refl s

/-! ### The control window -/

theorem detach_regions (s : State) (j : Port) : (s.detach j).regions = s.regions := by
  rw [State.detach, State.setMode, State.setPort_regions, State.emptyNotices_regions, State.dropSharer_regions]

theorem writeMode_regions (s : State) (j : Port) (coherent : Bool) :
    (s.writeMode j coherent).regions = s.regions := by
  unfold State.writeMode
  split
  · rfl
  · rfl
  · rfl
  · exact (State.setPort_regions _ j _).trans (detach_regions s j)
  · rfl

/-- Of all the accesses to the window, a write to a DISABLED region's group alone writes a configuration (R130). -/
theorem State.WindowDoes.keepsEnabled (h : s.WindowDoes k t) : s.KeepsEnabled t := by
  cases h with
  | left => exact .of_same (.refl s)
  | answered same r => exact .of_same (.of_regions same.regions)
  | softReset => exact .of_same (softReset_sameConfig s k)
  | resTime v range | noticeTime v range | urgency v range => exact .of_same (.refl s)
  | portCfg j coherent permission eventEnable permitted =>
    exact .of_same (.of_regions (writeMode_regions s j coherent))
  | attached j m => exact .of_same (.refl s)
  | detached j => exact .of_same (.respond (.of_regions (detach_regions s j)) k _)
  | configured r c disabled =>
    intro j hj
    have hne : j ≠ r := fun hr => hj (hr ▸ disabled)
    exact congrArg Region.cfg (setRegion_ne s hne _)
  | enabled r disabled => exact .of_same (.of_entry (r := r) rfl rfl)
  | disabled r unused => exact .of_same (.of_entry (r := r) rfl rfl)
  | probed r offline n timer => exact .of_same (.of_entry (r := r) rfl rfl)
  | forcedOnline r e offline => exact .of_same (comeOnline_sameConfig (s.dropProbe r) r e)
  | forcedOffline r e online =>
    have hgone : s.SameConfig (s.goOffline r id e) := goOffline_sameConfig s r e State.SameConfig.refl
    exact .of_same (hgone.respond k _)

end Rules

/-! ### Every command but POWER_ON_RESET -/

section Commands

variable {s t : State}

theorem happen_keepsEnabled {p : Bool} {f : State → State} (h : happen s p f = .next t)
    (hf : s.quiet.SameConfig (f s.quiet)) : s.KeepsEnabled t := by
  obtain hn | ⟨-, -, hn⟩ := happen_cases s p f <;> rw [hn] at h <;> obtain rfl := Host.Outcome.next.inj h
  · exact .of_same (.refl s)
  · exact .of_same hf

theorem takeRequest_keepsEnabled {named : Transaction → Bool} {f : State → Port → Transaction → State}
    (h : takeRequest s named f = .next t)
    (hf : ∀ (u : State) (k : Port) (x : Transaction), u.KeepsEnabled (f u k x)) : s.KeepsEnabled t := by
  obtain hn | ⟨k, x, -, -, hn⟩ := takeRequest_cases s named f <;> rw [hn] at h <;> obtain rfl := Host.Outcome.next.inj h
  · exact .of_same (.refl s)
  · exact hf (s.taken k) k x

theorem intake_keepsEnabled (s : State) (k : Port) (x : Transaction) : s.KeepsEnabled (s.intake k x) := by
  obtain hc | ⟨r, hd⟩ := intake_cases s k x
  · rw [hc]
    exact (controlAccess_does s k x).keepsEnabled
  · exact .of_same (.of_regions hd.regions)

/-- A row of the window that is told by the whole transaction. -/
theorem takeWindow_keepsEnabled {named : Transaction → Bool} {effect : Port → Transaction → State → State}
    (h : takeRequest s named (fun s k x => s.checkedAccess k x (effect k x)) = .next t)
    (he : ∀ (u : State) (k : Port) (x : Transaction), u.WindowDoes k (effect k x u)) : s.KeepsEnabled t :=
  takeRequest_keepsEnabled h fun u k x => (checkedAccess_does u k x (he u k x)).keepsEnabled

/-- A row of the window that is a write of a command. -/
theorem takeWrite_keepsEnabled {named : Reg → Bool} {value : Word → Bool} {effect : State → Port → Word → State}
    (h : takeWrite s named value effect = .next t)
    (he : ∀ (u : State) (k : Port) (v : Word), u.WindowDoes k (effect u k v)) : s.KeepsEnabled t :=
  takeWindow_keepsEnabled (effect := fun k x s => effect s k x.wdata) h fun u k x => he u k x.wdata

/-- What port reset does is not done to the region table. -/
theorem execPortReset_keepsEnabled {k : Port} (h : execPortReset k s = .next t) : s.KeepsEnabled t := by
  unfold execPortReset at h
  split at h <;> obtain rfl := Host.Outcome.next.inj h
  · exact .of_same (.refl s)
  · obtain ⟨-, -, -, hregions, -⟩ := portReset_work s.quiet k
    exact .of_same (.of_regions hregions)

theorem execPortResetDeassert_keepsEnabled {k : Port} (h : execPortResetDeassert k s = .next t) :
    s.KeepsEnabled t := by
  unfold execPortResetDeassert at h
  split at h <;> obtain rfl := Host.Outcome.next.inj h <;> exact .of_same (.refl s)

theorem evaluate_regions (s : State) : s.evaluate.regions = s.regions := by
  obtain hs | ⟨i, hi⟩ := evaluate_sameWork s
  · exact hs.regions
  · exact hi.regions

theorem noticeTimedOut_regions (s : State) (k : Port) : (s.noticeTimedOut k).regions = s.regions := by
  unfold State.noticeTimedOut
  split
  · rfl
  · exact (State.record_regions _ _).trans (detach_regions s k)

theorem execPortCfg_keepsEnabled (h : execPortCfg s = .next t) : s.KeepsEnabled t := by
  refine takeWindow_keepsEnabled (effect := fun k x s => match (regOf x).bind Reg.cfgPort? with
    | none => s
    | some j => s.writePortCfg j k x.wdata) h fun u k x => ?_
  split
  · exact .left
  · exact writePortCfg_does u k _ _

theorem execRegion_keepsEnabled (h : execRegion s = .next t) : s.KeepsEnabled t := by
  refine takeWindow_keepsEnabled (effect := fun k x s => match (regOf x).bind Reg.regionWord? with
    | none => s
    | some (n, w) => s.writeRegion n w k x.wdata) h fun u k x => ?_
  split
  · exact .left
  · exact writeRegion_does u k _ _ _

theorem execControlWindowWrite_keepsEnabled (h : execControlWindowWrite s = .next t) : s.KeepsEnabled t := by
  refine takeWindow_keepsEnabled (effect := fun k x s => match regOf x with
    | none => s
    | some g => s.writeParameter k g x.wdata) h fun u k x => ?_
  split
  · exact .left
  · exact writeParameter_does u k _ _

theorem execEventHead_keepsEnabled (h : execEventHead s = .next t) : s.KeepsEnabled t := by
  refine takeWindow_keepsEnabled (effect := fun k x s =>
    if regOf x == some .eventHead0 then s.readWindow k .eventHead0 else s.readWindow k .eventHead1) h fun u k x => ?_
  split
  · exact readWindow_does u k _
  · exact readWindow_does u k _

/-- Every command but POWER_ON_RESET keeps the configurations of the enabled regions. -/
theorem exec_keepsEnabled (c : Instr) (hc : ∀ b, c ≠ .powerOnReset b) (h : exec c s = .next t) : s.KeepsEnabled t := by
  cases c with
  | powerOnReset asserted => exact absurd rfl (hc asserted)
  | acceptance k x => exact happen_keepsEnabled (show execAcceptance k x s = _ from h) (.refl _)
  | read | write | lineRead | lineWrite | reserveRead | releaseWrite | release =>
    exact takeRequest_keepsEnabled (show takeRequest s _ State.intake = _ from h) intake_keepsEnabled
  | portReset k => exact execPortReset_keepsEnabled h
  | portResetDeassert k => exact execPortResetDeassert_keepsEnabled h
  | ack data => exact happen_keepsEnabled (show execAck data s = _ from h) (acked_sameConfig _ data)
  | err withAck => exact happen_keepsEnabled (show execErr withAck s = _ from h) (errored_sameConfig _)
  | readyTimeout =>
    exact happen_keepsEnabled (show execReadyTimeout s = _ from h)
      ((elapse_sameConfig _ _).trans (timedOut_sameConfig _))
  | probeTimerRunOut r =>
    exact happen_keepsEnabled (show execProbeTimerRunOut r s = _ from h)
      ((elapse_sameConfig _ _).trans (.of_entry (r := r) rfl rfl))
  | expiry e => exact happen_keepsEnabled (show execExpiry e s = _ from h) (elapse_sameConfig _ _)
  | acknowledgement k w => exact happen_keepsEnabled (show execAcknowledgement k w s = _ from h) (.refl _)
  | noticeTimeout k =>
    exact happen_keepsEnabled (show execNoticeTimeout k s = _ from h)
      ((elapse_sameConfig _ _).trans (.of_regions (noticeTimedOut_regions _ k)))
  | foreignWrite a => exact happen_keepsEnabled (show execForeignWrite a s = _ from h) (.refl _)
  | evaluation => exact happen_keepsEnabled (show execEvaluation s = _ from h) (.of_regions (evaluate_regions _))
  | cleanSweepStep =>
    exact happen_keepsEnabled (show execCleanSweepStep s = _ from h) (.of_regions (cleanStep_makesDrain _).regions)
  | flushSweepStep =>
    exact happen_keepsEnabled (show execFlushSweepStep s = _ from h) (.of_regions (flushStep_makesDrain _).regions)
  | discardSweepStep =>
    exact happen_keepsEnabled (show execDiscardSweepStep s = _ from h) (.of_regions (discardStep_sameWork _).regions)
  | run =>
    exact takeWrite_keepsEnabled (show execRun s = _ from h) fun u k _ =>
      ok_does u k ⟨⟨rfl, rfl, rfl, rfl⟩, rfl, rfl, rfl, rfl⟩
  | softReset => exact takeWrite_keepsEnabled (show execSoftReset s = _ from h) fun _ _ _ => .softReset
  | portCfg => exact execPortCfg_keepsEnabled h
  | attach => exact takeWrite_keepsEnabled (show execAttach s = _ from h) attachPort_does
  | detach => exact takeWrite_keepsEnabled (show execDetach s = _ from h) detachPort_does
  | controlWindowWrite => exact execControlWindowWrite_keepsEnabled h
  | region => exact execRegion_keepsEnabled h
  | enable => exact takeWrite_keepsEnabled (show execEnable s = _ from h) enableRegion_does
  | disable => exact takeWrite_keepsEnabled (show execDisable s = _ from h) disableRegion_does
  | forceProbe => exact takeWrite_keepsEnabled (show execForceProbe s = _ from h) forceProbe_does
  | forceOnline => exact takeWrite_keepsEnabled (show execForceOnline s = _ from h) forceOnline_does
  | forceOffline => exact takeWrite_keepsEnabled (show execForceOffline s = _ from h) forceOffline_does
  | clean => exact takeWrite_keepsEnabled (show execClean s = _ from h) fun u k v => startSweep_does u k v .clean
  | flush => exact takeWrite_keepsEnabled (show execFlush s = _ from h) fun u k v => startSweep_does u k v .flush
  | discard => exact takeWrite_keepsEnabled (show execDiscard s = _ from h) fun u k v => startSweep_does u k v .discard
  | abort => exact takeWrite_keepsEnabled (show execAbort s = _ from h) fun u k _ => abortSweep_does u k
  | lineQuery => exact takeWrite_keepsEnabled (show execLineQuery s = _ from h) queryLine_does
  | eventHead => exact execEventHead_keepsEnabled h
  | eventPop => exact takeWrite_keepsEnabled (show execEventPop s = _ from h) fun u k _ => popEvent_does u k

end Commands

/-- Settles O12: power-on reset apart, a write to a DISABLED region's group alone writes a configuration. -/
theorem enabledRegionKeepsConfiguration : Obligations.EnabledRegionKeepsConfiguration := by
  unfold Obligations.EnabledRegionKeepsConfiguration
  exact fun c s t n hc hn h => exec_keepsEnabled c hc h n hn

end Sys2Proof.Machine

/-! ## FORCE_PROBE and FORCE_ONLINE

Both act by the state of the region that the write names (R161, R162). As a region returns, its HELD drains' writes join
the tail of the queue and the Device Port turns to the head at last; what it presents then follows from what it
presented once the region's probe had left. -/

namespace Sys2Proof.Machine

/-! ### Writes that join the queue behind what is presented (R75, R136) -/

section Joining

variable {d : DevicePort} {regions : Vector Region 8} {Q : List Operation}

/-- What a Device Port with the queue `Q` presents as it turns to the head. -/
def DevicePort.presents (d : DevicePort) (regions : Vector Region 8) (Q : List Operation) : DevPhase :=
  if d.phase = .idle then presentHead regions Q else d.phase

theorem presents_idle (hd : d.phase = .idle) : d.presents regions Q = presentHead regions Q := if_pos hd

theorem presents_of_ne {p : DevPhase} (hd : d.phase = p) (hp : p ≠ .idle) : d.presents regions Q = p := by
  subst hd
  exact if_neg hp

theorem withQueue_kick (d : DevicePort) (regions : Vector Region 8) (Q : List Operation) :
    ({ d with queue := Q } : DevicePort).kick regions = { d with queue := Q, phase := d.presents regions Q } := by
  by_cases hd : d.phase = .idle
  · rw [presents_idle hd]
    exact kick_idle (d := { d with queue := Q }) regions hd
  · rw [presents_of_ne rfl hd]
    exact kick_of_ne (d := { d with queue := Q }) regions hd

/-- Operations join the tail behind a presented transfer, which stays. -/
theorem joins_of_ne (hd : d.phase ≠ .idle) (ops : List Operation) :
    ops.foldl (fun d op => d.join regions op) d = { d with queue := d.queue ++ ops } := by
  induction ops generalizing d with
  | nil => rw [List.append_nil, List.foldl_nil]
  | cons op ops ih =>
    have hjoin : d.join regions op = { d with queue := d.queue ++ [op] } := kick_of_ne regions hd
    have hrest := ih (d := { d with queue := d.queue ++ [op] }) hd
    rw [List.foldl_cons, hjoin, hrest, List.append_assoc, List.singleton_append]

/-- Operations that join one after the other may as well join at once, before the Device Port turns to its head. -/
theorem joins_kick_eq (d : DevicePort) (regions : Vector Region 8) (ops : List Operation) :
    (ops.foldl (fun d op => d.join regions op) d).kick regions =
      { d with queue := d.queue ++ ops, phase := d.presents regions (d.queue ++ ops) } := by
  rw [← withQueue_kick]
  by_cases hd : d.phase = .idle
  · exact (joins_kick hd ops).trans (kick_idle (d := { d with queue := d.queue ++ ops }) regions hd).symm
  · rw [joins_of_ne hd]

end Joining

variable {s : State} {k : Port} {v : Word} {r : RegionId}

/-- A region returns, whatever is presented: its HELD drains join the queue, oldest first (R75, R133, R162). -/
theorem comeOnline_eq (s : State) (r : RegionId) (e : Event) (up : Vector Region 8)
    (hup : up = setAt s.regions r { s.regions[r] with health := .online, count := 0, probeTimer := none })
    (Q : List Operation)
    (hQ : Q = s.dev.queue ++ (s.drains.filter fun e => e.held && e.region == r).map DrainEntry.op) :
    s.comeOnline r e = { s with
      regions := up
      drains := s.drains.map fun e => if e.region = r then { e with held := false } else e
      events := s.events.push e
      dev := { s.dev with queue := Q, phase := s.dev.presents up Q } } := by
  subst hup hQ
  rw [State.comeOnline, State.requeueDrains, enqueueDrains_eq, ← joins_kick_eq]
  rfl

/-! ### FORCE_PROBE (R161) -/

/-- FORCE_PROBE acts by the region's state and its probe timer. -/
theorem exec_forceProbe (h : s.writes k .regionCmd v) (hr : r.val = (v.extractLsb' 0 3).toNat)
    (hv : v.extractLsb' 8 3 = 3) :
    exec .forceProbe s = .next (match s.regions[r].health, s.regions[r].probeTimer with
      | .disabled, _ => s.answering k (.fault .control)
      | .offline, some _ => (s.queueProbe r).answering k (.done .nothing)
      | _, _ => s.answering k (.done .nothing)) := by
  obtain rfl : regionCmdRegion v = r := Fin.ext hr.symm
  have hcode : (regionCmdCode v == 3) = true := beq_iff_eq.mpr hv
  have hregions : (s.taken k).regions = s.regions := rfl
  refine (takeWrite_of (effect := State.forceProbe) h rfl hcode).trans (congrArg _ ?_)
  rw [State.forceProbe, hregions]
  cases s.regions[regionCmdRegion v].health with
  | disabled | online => exact taken_respond s k _
  | offline =>
    cases s.regions[regionCmdRegion v].probeTimer with
    | none => exact taken_respond s k _
    | some n => exact taken_respond (s.queueProbe _) k _

/-! ### FORCE_ONLINE (R162) -/

theorem dropProbe_phase (s : State) (r : RegionId) :
    (s.dropProbe r).dev.phase = stopped (Operation.isProbeOf r) s.dev.phase s.dev.queue := rfl

/-- A probe that leaves from the head leaves its transfer as an orphan; any other head goes on (R136, R162). -/
theorem stopped_probe (op : Operation) (q : List Operation) (now : Transfer) (timer : Nat) (rest : List Transfer)
    (gathered : Word) (kept : List Word) :
    stopped (Operation.isProbeOf r) (.busy now timer rest gathered kept) (op :: q) =
      if op.kind = .probe ∧ op.region = r then .clearing now timer else .busy now timer rest gathered kept := by
  simp only [stopped, Operation.isProbeOf, Bool.and_eq_true, beq_iff_eq]

/-- The grant has no part in the return. -/
theorem forcedOnline_taken (s : State) (k : Port) (r : RegionId) (e : Event) :
    ((s.taken k).dropProbe r).comeOnline r e = ((s.dropProbe r).comeOnline r e).taken k := by
  rw [comeOnline_eq _ r e _ rfl _ rfl, comeOnline_eq (s.dropProbe r) r e _ rfl _ rfl]
  rfl

/-- FORCE_ONLINE acts by the region's state. -/
theorem exec_forceOnline (h : s.writes k .regionCmd v) (hr : r.val = (v.extractLsb' 0 3).toNat)
    (hv : v.extractLsb' 8 3 = 4) :
    exec .forceOnline s = .next (match s.regions[r].health with
      | .disabled => s.answering k (.fault .control)
      | .online => s.answering k (.done .nothing)
      | .offline => ((s.dropProbe r).comeOnline r (.regionOnlineForced r k)).answering k (.done .nothing)) := by
  obtain rfl : regionCmdRegion v = r := Fin.ext hr.symm
  have hcode : (regionCmdCode v == 4) = true := beq_iff_eq.mpr hv
  have hregions : (s.taken k).regions = s.regions := rfl
  refine (takeWrite_of (effect := State.forceOnline) h rfl hcode).trans (congrArg _ ?_)
  rw [State.forceOnline, hregions]
  cases s.regions[regionCmdRegion v].health with
  | disabled | online => exact taken_respond s k _
  | offline =>
    simp only [forcedOnline_taken]
    exact taken_respond _ k _

/-- Settles O57, by the region's state, its probe timer, and what is presented on the bus. -/
theorem forceProbeAndForceOnline : Obligations.ForceProbeAndForceOnline := by
  unfold Obligations.ForceProbeAndForceOnline
  intro s k v r h hr g done refused
  refine ⟨fun hv => ⟨fun hg => ?_, ?_, fun hg ht => ?_⟩,
    fun hv => ⟨fun hg => ?_, fun hg => ?_, fun hg => ?_⟩⟩
  · rw [exec_forceProbe h hr hv, hg]
  · rintro (hg | ⟨hg, ht⟩)
    · rw [exec_forceProbe h hr hv, hg]
    · rw [exec_forceProbe h hr hv, hg, ht]
  · obtain ⟨n, hn⟩ := Option.ne_none_iff_exists'.mp ht
    have hexec := exec_forceProbe h hr hv
    rw [hg, hn, queueProbe_eq] at hexec
    exact hexec
  · rw [exec_forceOnline h hr hv, hg]
  · rw [exec_forceOnline h hr hv, hg]
  · intro regions queue
    have hexec := exec_forceOnline h hr hv
    have hreturns := comeOnline_eq (s.dropProbe r) r (.regionOnlineForced r k) regions rfl queue rfl
    rw [hg, hreturns] at hexec
    refine ⟨_, hexec, fun hi => presents_idle ?_, fun orphan timer hp => presents_of_ne ?_ nofun,
      fun op q now timer rest gathered kept hp hq =>
        ⟨fun hop => presents_of_ne ?_ nofun, fun hop => presents_of_ne ?_ nofun⟩⟩
    · rw [dropProbe_phase, hi]
      rfl
    · rw [dropProbe_phase, hp]
      rfl
    · rw [dropProbe_phase, hp, hq, stopped_probe, if_pos hop]
    · rw [dropProbe_phase, hp, hq, stopped_probe, if_neg hop]

end Sys2Proof.Machine

/-! ## Sweeps

A step acts by the entry of the way at which the sweep stands (R168 to R173). Whatever the command, a way that does not
concern the sweep is passed and a FILLING way is skipped; so each command's own table is about the held lines alone. -/

namespace Sys2Proof.Machine

/-! ### The walk (R168, R175) -/

section Walk

variable {s : State}

/-- The position moves on, or the sweep ends at the walk's last way. -/
theorem advance_eq_walked (s : State) : s.advance = s.walked := by
  unfold State.advance State.walked Sweep.next
  by_cases hway : s.sweep.way = 3
  · by_cases hset : s.sweep.set = 127
    · rw [if_pos hway, if_pos hset, if_pos ⟨hway, hset⟩]
      rfl
    · rw [if_pos hway, if_neg hset, if_neg fun hlast => hset hlast.2, if_pos hway]
  · rw [if_neg hway, if_neg fun hlast => hway hlast.1, if_neg hway]

/-- A skipped way is counted and passed (R172). -/
theorem skipWay_eq (s : State) : s.skipWay = s.countSkip.walked := advance_eq_walked _

/-- A RUNNING sweep has nothing to wait for at a way that changes (R174). -/
theorem wayChanged_running {w : Sweep} (h : w.state = .running) (si : SetIdx) (wy : WayIdx) :
    w.wayChanged si wy = w := by
  simp only [Sweep.wayChanged, h, ite_self]

/-- A line that leaves its way by a step of a RUNNING sweep (R170 to R172). -/
theorem sweepOut_eq (hrun : s.sweep.state = .running) (x : Held) (kind : NoticeKind) :
    s.sweepOut x kind = State.walked { s with
      notices := s.notified kind (s.sweepLine x) x.sharers
      dir := s.withInvalid s.sweep.set s.sweep.way
      sweep := { s.sweep with invalidated := s.sweep.invalidated + 1 } } := by
  rw [State.sweepOut, advance_eq_walked, invalidate_eq, State.sendNotices_sweep, wayChanged_running hrun]
  rfl

end Walk

/-! ### The steps by the entry of their way (R168) -/

section Steps

variable {s : State} {c : SweepCommand} {r : RegionId} {x : Held}

/-- The row of the table that is a sweep command's step. -/
def SweepCommand.stepRow : SweepCommand → Instr
  | .clean => .cleanSweepStep
  | .flush => .flushSweepStep
  | .discard => .discardSweepStep

/-- The effect of a sweep command's step. -/
def State.sweepStep (s : State) : SweepCommand → State
  | .clean => s.cleanStep
  | .flush => s.flushStep
  | .discard => s.discardStep

theorem State.sweeping.running (h : s.sweeping c) : s.sweep.state = .running := by
  obtain ⟨-, hrun, -⟩ := h
  exact hrun

/-- A RUNNING sweep's step is taken. -/
theorem exec_sweepStep (h : s.sweeping c) : exec c.stepRow s = .next (s.quiet.sweepStep c) := by
  obtain ⟨hpin, hrun, hcommand⟩ := h
  have hpresents : s.sweep.presents c = true := by simp [Sweep.presents, hrun, hcommand]
  cases c with
  | clean => exact happen_of (f := State.cleanStep) hpin hpresents
  | flush => exact happen_of (f := State.flushStep) hpin hpresents
  | discard => exact happen_of (f := State.discardStep) hpin hpresents

theorem matchesRegion_iff {w : Sweep} : w.matchesRegion r = true ↔ w.filter = none ∨ w.filter = some r := by
  cases hf : w.filter <;> simp [Sweep.matchesRegion, hf]

/-- A way that concerns the sweep is of a region that matches the filter. -/
theorem concerned_iff : s.concerned r ↔ s.sweepEntry.region? = some r ∧ s.sweep.matchesRegion r = true :=
  and_congr_right fun _ => matchesRegion_iff.symm

theorem State.concerned.matchesRegion (h : s.concerned r) : s.sweep.matchesRegion r = true := by
  obtain ⟨-, hmatch⟩ := concerned_iff.mp h
  exact hmatch

/-- A way that does not concern the sweep is passed, whatever the command. -/
theorem sweepStep_unconcerned (c : SweepCommand) (h : ∀ r, ¬s.concerned r) : s.sweepStep c = s.walked := by
  have hno {r : RegionId} (hr : s.sweepEntry.region? = some r) : ¬s.sweep.matchesRegion r = true :=
    fun hm => h r (concerned_iff.mpr ⟨hr, hm⟩)
  rw [← advance_eq_walked]
  cases he : s.sweepEntry with
  | invalid => cases c <;> simp only [State.sweepStep, State.cleanStep, State.flushStep, State.discardStep, he]
  | clean x | dirty x | filling tag r i =>
    have hskip := hno (congrArg Entry.region? he)
    cases c <;> simp only [State.sweepStep, State.cleanStep, State.flushStep, State.discardStep, he, if_neg hskip]

/-- A FILLING way that concerns the sweep is skipped, whatever the command. -/
theorem sweepStep_filling (c : SweepCommand) {tag : Tag} {r' : RegionId} {i : SlotId}
    (he : s.sweepEntry = .filling tag r' i) (hr : s.concerned r) : s.sweepStep c = s.countSkip.walked := by
  obtain ⟨hregion, hmatch⟩ := concerned_iff.mp hr
  obtain rfl : r' = r := Option.some.inj ((congrArg Entry.region? he).symm.trans hregion)
  rw [← skipWay_eq]
  cases c <;> simp only [State.sweepStep, State.cleanStep, State.flushStep, State.discardStep, he, if_pos hmatch]

/-- A CLEAN line is passed by a CLEAN step, whether or not it concerns the sweep (R169). -/
theorem cleanStep_clean (he : s.sweepEntry = .clean x) : s.cleanStep = s.walked := by
  simp only [State.cleanStep, he, advance_eq_walked]

theorem cleanStep_dirty (he : s.sweepEntry = .dirty x) (hr : s.concerned x.region) : s.cleanStep = s.cleanDirty x := by
  simp only [State.cleanStep, he, if_pos hr.matchesRegion]

/-- A line lacks notice room exactly when some sharer has none for it (R98). -/
theorem sweepLacking_any : (s.sweepLacking x).any = true ↔ ¬s.roomFor x.sharers (s.sweepLine x) := lacking_any

theorem sweepReserved_iff : s.sweepReserved x = true ↔ s.resOf (s.sweepLine x) ≠ none := by
  rw [State.sweepReserved, Option.isSome_iff_ne_none]

/-- A reserved line is skipped by a FLUSH step (R170). -/
theorem flushStep_reserved (held : s.sweepEntry.held? = some x) (hr : s.concerned x.region)
    (hres : s.resOf (s.sweepLine x) ≠ none) : s.flushStep = s.countSkip.walked := by
  have hreserved := sweepReserved_iff.mpr hres
  rw [← skipWay_eq]
  cases he : s.sweepEntry with
  | invalid | filling => exact absurd (he ▸ held) nofun
  | clean y | dirty y =>
    obtain rfl : y = x := Option.some.inj ((congrArg Entry.held? he).symm.trans held)
    simp only [State.flushStep, he, if_pos hr.matchesRegion, if_pos hreserved]

theorem flushStep_clean (he : s.sweepEntry = .clean x) (hr : s.concerned x.region)
    (hfree : s.resOf (s.sweepLine x) = none) : s.flushStep = s.flushClean x := by
  have hreserved : ¬s.sweepReserved x = true := sweepReserved_iff.not_left.mpr hfree
  simp only [State.flushStep, he, if_pos hr.matchesRegion, if_neg hreserved]

theorem flushStep_dirty (he : s.sweepEntry = .dirty x) (hr : s.concerned x.region)
    (hfree : s.resOf (s.sweepLine x) = none) : s.flushStep = s.flushDirty x := by
  have hreserved : ¬s.sweepReserved x = true := sweepReserved_iff.not_left.mpr hfree
  simp only [State.flushStep, he, if_pos hr.matchesRegion, if_neg hreserved]

/-- CLEAN and DIRTY lines are alike to a DISCARD step (R171). -/
theorem discardStep_held (held : s.sweepEntry.held? = some x) (hr : s.concerned x.region) :
    s.discardStep = s.discardHeld x := by
  cases he : s.sweepEntry with
  | invalid | filling => exact absurd (he ▸ held) nofun
  | clean y | dirty y =>
    obtain rfl : y = x := Option.some.inj ((congrArg Entry.held? he).symm.trans held)
    simp only [State.discardStep, he, if_pos hr.matchesRegion]

end Steps

/-! ### The held lines (R169 to R171) -/

section HeldLines

variable {s : State} {x : Held}

theorem drainRoom_full (h : 2 ≤ s.drains.length) : ¬s.drainRoom = true := by
  rw [drainRoom_iff]
  exact Nat.not_lt.mpr h

/-- A DIRTY line of an OFFLINE region is skipped by a CLEAN step. -/
theorem cleanDirty_offline (hoff : s.isOffline x.region = true) : s.cleanDirty x = s.countSkip.walked := by
  rw [State.cleanDirty, if_pos hoff, skipWay_eq]

/-- A DIRTY line waits for drain room. -/
theorem cleanDirty_full (hon : s.isOffline x.region = false) (hfull : 2 ≤ s.drains.length) :
    s.cleanDirty x = s.sweepWait .waitingDrain := by
  rw [State.cleanDirty, hon, if_neg nofun, if_neg (drainRoom_full hfull)]

/-- A COPY entry is made of a DIRTY line, which becomes CLEAN. -/
theorem cleanDirty_copied (hon : s.isOffline x.region = false) (room : s.drains.length < 2) :
    s.cleanDirty x = (((s.addDrain .copy (s.sweepLine x) x).setEntry s.sweep.set s.sweep.way
      (.clean x)).countBack).walked := by
  rw [State.cleanDirty, hon, if_neg nofun, if_pos (drainRoom_iff.mpr room), State.cleanCopy, advance_eq_walked]

/-- A CLEAN line waits for the sharers that lack notice room. -/
theorem flushClean_crowded (hroom : ¬s.roomFor x.sharers (s.sweepLine x)) :
    s.flushClean x = s.sweepWait (.waitingNotice (s.sweepLacking x)) := by
  rw [State.flushClean, if_pos (sweepLacking_any.mpr hroom)]

theorem flushClean_out (hroom : s.roomFor x.sharers (s.sweepLine x)) : s.flushClean x = s.sweepOut x .revoke := by
  rw [State.flushClean, if_neg (sweepLacking_any.not_left.mpr hroom)]

/-- A DIRTY line of an OFFLINE region is skipped by a FLUSH step. -/
theorem flushDirty_offline (hoff : s.isOffline x.region = true) : s.flushDirty x = s.countSkip.walked := by
  rw [State.flushDirty, if_pos hoff, skipWay_eq]

theorem flushDirty_full (hon : s.isOffline x.region = false) (hfull : 2 ≤ s.drains.length) :
    s.flushDirty x = s.sweepWait .waitingDrain := by
  rw [State.flushDirty, hon, if_neg nofun, if_pos (by simpa using drainRoom_full hfull)]

/-- With drain room, a DIRTY line waits for the sharers that lack notice room. -/
theorem flushDirty_crowded (hon : s.isOffline x.region = false) (room : s.drains.length < 2)
    (hroom : ¬s.roomFor x.sharers (s.sweepLine x)) :
    s.flushDirty x = s.sweepWait (.waitingNotice (s.sweepLacking x)) := by
  rw [State.flushDirty, hon, if_neg nofun, if_neg (by simpa using drainRoom_iff.mpr room),
    if_pos (sweepLacking_any.mpr hroom)]

/-- With room of both kinds, an EVICT entry is made of a DIRTY line, which leaves its way. -/
theorem flushDirty_out (hon : s.isOffline x.region = false) (room : s.drains.length < 2)
    (hroom : s.roomFor x.sharers (s.sweepLine x)) :
    s.flushDirty x = ((s.addDrain .evict (s.sweepLine x) x).countBack).sweepOut x .revoke := by
  rw [State.flushDirty, hon, if_neg nofun, if_neg (by simpa using drainRoom_iff.mpr room),
    if_neg (sweepLacking_any.not_left.mpr hroom)]

theorem discardHeld_reserved (hres : s.resOf (s.sweepLine x) ≠ none) : s.discardHeld x = s.countSkip.walked := by
  rw [State.discardHeld, if_pos (sweepReserved_iff.mpr hres), skipWay_eq]

theorem discardHeld_crowded (hfree : s.resOf (s.sweepLine x) = none) (hroom : ¬s.roomFor x.sharers (s.sweepLine x)) :
    s.discardHeld x = s.sweepWait (.waitingNotice (s.sweepLacking x)) := by
  rw [State.discardHeld, if_neg (sweepReserved_iff.not_left.mpr hfree), if_pos (sweepLacking_any.mpr hroom)]

theorem discardHeld_out (hfree : s.resOf (s.sweepLine x) = none) (hroom : s.roomFor x.sharers (s.sweepLine x)) :
    s.discardHeld x = s.sweepOut x .invalidate := by
  rw [State.discardHeld, if_neg (sweepReserved_iff.not_left.mpr hfree),
    if_neg (sweepLacking_any.not_left.mpr hroom)]

end HeldLines

/-- Settles O46, by the entry of the way, and for a DIRTY line by its region's health and the drain room. -/
theorem cleanStepCopiesDirtyLine : Obligations.CleanStepCopiesDirtyLine := by
  unfold Obligations.CleanStepCopiesDirtyLine
  intro s h here b skip
  have hexec : exec .cleanSweepStep s = .next (s.quiet.sweepStep .clean) := exec_sweepStep h
  have hdirty {x : Held} (hx : here = .dirty x) (hr : s.concerned x.region) :
      s.quiet.sweepStep .clean = s.quiet.cleanDirty x := cleanStep_dirty (s := s.quiet) hx hr
  rw [hexec]
  refine ⟨fun hno => ?unconcerned, fun x hx => ?clean, fun tag r i hx hr => ?filling,
    fun x hx hr => ⟨fun hoff => ?offline, fun hon hfull => ?full, fun hon room => ?copied⟩⟩
  case unconcerned => exact congrArg _ (sweepStep_unconcerned (s := s.quiet) .clean hno)
  case clean => exact congrArg _ (cleanStep_clean (s := s.quiet) hx)
  case filling => exact congrArg _ (sweepStep_filling (s := s.quiet) .clean hx hr)
  case offline =>
    rw [hdirty hx hr, cleanDirty_offline (s := s.quiet) hoff]
    rfl
  case full =>
    rw [hdirty hx hr, cleanDirty_full (s := s.quiet) hon hfull]
    rfl
  case copied =>
    rw [hdirty hx hr, cleanDirty_copied (s := s.quiet) hon room]
    rfl

/-- Settles O47, by the entry of the way, and for a held line by the checks of R170 in their order. -/
theorem flushStepEvictsLine : Obligations.FlushStepEvictsLine := by
  unfold Obligations.FlushStepEvictsLine
  intro s h here b skip
  have hexec : exec .flushSweepStep s = .next (s.quiet.sweepStep .flush) := exec_sweepStep h
  rw [hexec]
  refine ⟨fun hno => congrArg _ (sweepStep_unconcerned (s := s.quiet) .flush hno),
    fun tag r i hx hr => congrArg _ (sweepStep_filling (s := s.quiet) .flush hx hr), fun x held hr => ?_⟩
  intro l wait
  have hclean (hfree : s.resOf l = none) (hx : here = .clean x) : s.quiet.sweepStep .flush = s.quiet.flushClean x :=
    flushStep_clean (s := s.quiet) hx hr hfree
  have hdirty (hfree : s.resOf l = none) (hx : here = .dirty x) : s.quiet.sweepStep .flush = s.quiet.flushDirty x :=
    flushStep_dirty (s := s.quiet) hx hr hfree
  refine ⟨fun hres => ?reserved, fun hfree hx hoff => ?offline, fun hfree hx hon hfull => ?full,
    fun hfree hx hon room hroom => ?dirtyWaits, fun hfree hx hroom => ?cleanWaits,
    fun hfree hx hon room hroom => ?dirtyLeaves, fun hfree hx hroom => ?cleanLeaves⟩
  case reserved => exact congrArg _ (flushStep_reserved (s := s.quiet) held hr hres)
  case offline =>
    rw [hdirty hfree hx, flushDirty_offline (s := s.quiet) hoff]
    rfl
  case full =>
    rw [hdirty hfree hx, flushDirty_full (s := s.quiet) hon hfull]
    rfl
  case dirtyWaits =>
    rw [hdirty hfree hx, flushDirty_crowded (s := s.quiet) hon room hroom]
    rfl
  case cleanWaits =>
    rw [hclean hfree hx, flushClean_crowded (s := s.quiet) hroom]
    rfl
  case dirtyLeaves =>
    rw [hdirty hfree hx, flushDirty_out (s := s.quiet) hon room hroom,
      sweepOut_eq (s := (s.quiet.addDrain _ _ _).countBack) h.running]
    rfl
  case cleanLeaves =>
    rw [hclean hfree hx, flushClean_out (s := s.quiet) hroom, sweepOut_eq (s := s.quiet) h.running]
    rfl

/-- Settles O48, by the entry of the way, and for a held line by the checks of R171 in their order. -/
theorem discardStepDropsLine : Obligations.DiscardStepDropsLine := by
  unfold Obligations.DiscardStepDropsLine
  intro s h here b skip
  have hexec : exec .discardSweepStep s = .next (s.quiet.sweepStep .discard) := exec_sweepStep h
  rw [hexec]
  refine ⟨fun hno => congrArg _ (sweepStep_unconcerned (s := s.quiet) .discard hno),
    fun tag r i hx hr => congrArg _ (sweepStep_filling (s := s.quiet) .discard hx hr), fun x held hr => ?_⟩
  have hheld : s.quiet.sweepStep .discard = s.quiet.discardHeld x := discardStep_held (s := s.quiet) held hr
  rw [hheld]
  refine ⟨fun hres => ?reserved, fun hfree hroom => ?waits, fun hfree hroom => ?dropped⟩
  case reserved => exact congrArg _ (discardHeld_reserved (s := s.quiet) hres)
  case waits => exact congrArg _ (discardHeld_crowded (s := s.quiet) hfree hroom)
  case dropped =>
    rw [discardHeld_out (s := s.quiet) hfree hroom, sweepOut_eq (s := s.quiet) h.running]
    rfl

/-! ### The commands of a sweep (R167, R176, R187) -/

section Commands

variable {s : State} {k : Port} {v : Word} {c : SweepCommand} {i : Instr} {f : Option RegionId}

/-- A sweep is in progress unless it is IDLE (R166). -/
theorem inProgress_iff {w : SweepState} : w.inProgress = true ↔ w ≠ .idle := by
  cases w <;> simp [SweepState.inProgress]

/-- The filter that a word gives: ALL, or the region of its bits 6:4. -/
theorem sweepCmdFilter_eq (hf : (v.getLsbD 7 = true ∧ f = none) ∨
    (v.getLsbD 7 = false ∧ ∃ r : RegionId, r.val = (v.extractLsb' 4 3).toNat ∧ f = some r)) :
    sweepCmdFilter v = f := by
  obtain ⟨hall, rfl⟩ | ⟨hone, r, hr, rfl⟩ := hf
  · exact if_pos hall
  · rw [sweepCmdFilter, hone, if_neg nofun]
    exact congrArg some (Fin.ext hr.symm)

theorem filterDisabled_iff : s.filterDisabled f = true ↔ ∃ r, f = some r ∧ s.regions[r].health = .disabled := by
  cases f with
  | none => simp [State.filterDisabled]
  | some r => simp [-Fin.getElem_fin, State.filterDisabled, Region.enabled_eq_false]

/-- A command that asks for a sweep has the effect of its register. -/
theorem exec_startSweep (h : s.writes k .sweepCmd v)
    (hc : (c = .clean ∧ i = .clean ∧ v.extractLsb' 0 3 = 1) ∨ (c = .flush ∧ i = .flush ∧ v.extractLsb' 0 3 = 2) ∨
      (c = .discard ∧ i = .discard ∧ v.extractLsb' 0 3 = 3)) :
    exec i s = .next ((s.taken k).startSweep c k v) := by
  obtain ⟨rfl, rfl, hv⟩ | ⟨rfl, rfl, hv⟩ | ⟨rfl, rfl, hv⟩ := hc
  · exact takeWrite_of (effect := fun s k v => s.startSweep .clean k v) h rfl (beq_iff_eq.mpr hv)
  · exact takeWrite_of (effect := fun s k v => s.startSweep .flush k v) h rfl (beq_iff_eq.mpr hv)
  · exact takeWrite_of (effect := fun s k v => s.startSweep .discard k v) h rfl (beq_iff_eq.mpr hv)

/-- ABORT has the effect of its register. -/
theorem exec_abort (h : s.writes k .sweepCmd v) (hv : v.extractLsb' 0 3 = 4) :
    exec .abort s = .next ((s.taken k).abortSweep k) :=
  takeWrite_of (effect := fun s k _ => s.abortSweep k) h rfl (beq_iff_eq.mpr hv)

/-- A sweep in progress, or a filter that names a DISABLED region, refuses a sweep. -/
theorem startSweep_refused (h : s.sweep.state ≠ .idle ∨ s.filterDisabled (sweepCmdFilter v) = true) :
    s.startSweep c k v = s.refuse k := by
  unfold State.startSweep
  split
  · rfl
  · next hidle => exact if_pos (h.resolve_left fun hne => hidle (inProgress_iff.mpr hne))

theorem startSweep_started (hidle : s.sweep.state = .idle) (hf : ¬s.filterDisabled (sweepCmdFilter v) = true) :
    s.startSweep c k v = State.ok { s with sweep := Sweep.started c (sweepCmdFilter v) k } k := by
  rw [State.startSweep, if_neg fun hp => inProgress_iff.mp hp hidle, if_neg hf]

theorem abortSweep_idle (hidle : s.sweep.state = .idle) : s.abortSweep k = s.ok k := by
  rw [State.abortSweep, if_neg fun hp => inProgress_iff.mp hp hidle]

theorem abortSweep_ends (h : s.sweep.state ≠ .idle) : s.abortSweep k = (s.endSweep true).ok k := by
  rw [State.abortSweep, if_pos (inProgress_iff.mpr h)]

end Commands

/-- Settles O58, by whether a sweep is in progress and whether the filter names a DISABLED region. -/
theorem sweepCommandsStartAndAbort : Obligations.SweepCommandsStartAndAbort := by
  unfold Obligations.SweepCommandsStartAndAbort
  intro s k v h done
  refine ⟨fun c i f hc hf => ?_, fun hv => ?_⟩
  · rw [exec_startSweep h hc]
    obtain rfl := sweepCmdFilter_eq hf
    refine ⟨fun hno => ?refused, fun hidle henabled => ?started⟩
    case refused =>
      rw [startSweep_refused (s := s.taken k) (hno.imp_right filterDisabled_iff.mpr)]
      exact congrArg _ (taken_respond s k _)
    case started =>
      have hf' : ¬(s.taken k).filterDisabled (sweepCmdFilter v) = true :=
        fun hd => (filterDisabled_iff.mp hd).elim fun r hr => henabled r hr.1 hr.2
      rw [startSweep_started (s := s.taken k) hidle hf']
      exact congrArg _ (taken_respond { s with sweep := Sweep.started c (sweepCmdFilter v) k } k _)
  · rw [exec_abort h hv]
    refine ⟨fun hidle => ?idle, fun hbusy => ?ends⟩
    case idle =>
      rw [abortSweep_idle (s := s.taken k) hidle]
      exact congrArg _ (taken_respond s k _)
    case ends =>
      rw [abortSweep_ends (s := s.taken k) hbusy]
      exact congrArg _ (taken_respond (s.endSweep true) k _)

end Sys2Proof.Machine

/-! ## Reading the window, LINE_QUERY and the event queue

A READ of a register answers with its word and loads at most the reading port's event latch (R180, R191). A snapshot is that
of the way which the lookup finds for the line, or of an INVALID entry (R188). The event queue takes records at its tail and
gives them up at its head (R190, R192). -/

namespace Sys2Proof.Machine

section WindowReads

variable {s : State} {k : Port} {t : Transaction} {g : Reg}

/-- A register answers a granted READ with its word, whatever the grant has noted. -/
theorem taken_readWindow (s : State) (k : Port) (g : Reg) :
    (s.taken k).readWindow k g = (s.noteRead k g).answering k (.done (.word (s.readReg k g))) := by
  have hnote : (s.taken k).noteRead k g = (s.noteRead k g).taken k := by cases g <;> rfl
  have hword : (s.taken k).readReg k g = s.readReg k g := by cases g <;> rfl
  rw [State.readWindow, hnote, hword, taken_respond]

/-- A granted READ of the window that passes the checks is a read of its register (R180). -/
theorem exec_read_window (h : s.accesses k t g) (hk : t.kind = .read) :
    exec .read s = .next ((s.noteRead k g).answering k (.done (.word (s.readReg k g)))) := by
  have ⟨ht, hw, _, hg⟩ := h
  rw [show Instr.read = t.kind.command by rw [hk]; rfl, exec_command ht, State.intake, if_neg (by simp [hw]), if_pos hw,
    State.controlAccess, checkedAccess_of h (.inl hk) (by simp [hk]), hg, ← taken_readWindow]
  simp [hk]

/-- A granted READ of EVENT_HEAD under its row's name is the same read (R191). -/
theorem exec_eventHead (h : s.accesses k t g) (hk : t.kind = .read) (hg : g = .eventHead0 ∨ g = .eventHead1) :
    exec .eventHead s = .next ((s.noteRead k g).answering k (.done (.word (s.readReg k g)))) := by
  have ⟨ht, hw, _, hreg⟩ := h
  have hnamed : readsEventHead t = true := by simpa [readsEventHead, hk, hw, hreg] using hg
  rw [← taken_readWindow]
  refine (takeRequest_of ht hnamed).trans (congrArg _ ?_)
  rw [checkedAccess_of h (.inl hk) (by simp [hk]), hreg]
  obtain rfl | rfl := hg <;> rfl

/-- A READ changes no state of its own but at EVENT_HEAD word 0 and SWEEP_STATUS word 0 (R180). -/
theorem noteRead_of_ne (hhead : g ≠ .eventHead0) (hsweep : g ≠ .sweepStatus0) : s.noteRead k g = s := by
  cases g with
  | eventHead0 => exact absurd rfl hhead
  | sweepStatus0 => exact absurd rfl hsweep
  | _ => rfl

end WindowReads

/-- Settles O50, by what the READ of a register notes. -/
theorem windowReadReturnsRegister : Obligations.WindowReadReturnsRegister := by
  unfold Obligations.WindowReadReturnsRegister
  intro s k t g h hk
  have hread := exec_read_window h hk
  refine ⟨fun hhead hsweep => ?other, ?sweepStatus, ?head0, ?head1⟩
  case other => rw [hread, noteRead_of_ne hhead hsweep]
  case sweepStatus =>
    rintro rfl
    exact hread
  case head0 =>
    rintro rfl c (rfl | rfl)
    · exact hread
    · exact exec_eventHead h hk (.inl rfl)
  case head1 =>
    rintro rfl c (rfl | rfl)
    · exact hread
    · exact exec_eventHead h hk (.inr rfl)

section Snapshots

variable {s : State} {l : LineAddr} {w : WayIdx}

/-- A write to LINE_QUERY stores the snapshot of its line and answers DONE (R188). -/
theorem exec_lineQuery {k : Port} {v : Word} (h : s.writes k .lineQuery0 v) :
    exec .lineQuery s = .next { s.answering k (.done .nothing) with
      snapshot := s.snapshotOf (lineOf v)
      fresh := s.fresh + 1 } :=
  (takeWrite_of (effect := State.queryLine) h rfl rfl).trans
    (congrArg _ (taken_respond { s with snapshot := s.snapshotOf (lineOf v), fresh := s.fresh + 1 } k _))

/-- The page of a line's first address is the line's tag. -/
theorem pageOf_lineWord (l : LineAddr) : pageOf (lineWord l) = tagOf l :=
  BitVec.extractLsb'_append_eq_of_le (by decide)

/-- The tag of an address's line is the address's page. -/
theorem tagOf_lineOf (a : Word) : tagOf (lineOf a) = pageOf a := by
  apply BitVec.eq_of_getLsbD_eq
  intro i hi
  have hline : 7 + i < 27 := by omega
  simp [tagOf, lineOf, pageOf, hline, ← Nat.add_assoc]

/-- A line lies in the region of each of its addresses (R20). -/
theorem regionAt_lineWord (s : State) (a : Word) : s.regionAt (lineWord (lineOf a)) = s.regionAt a := by
  rw [State.regionAt, pageOf_lineWord, tagOf_lineOf, State.regionAt]

theorem entryOf_absent (h : s.lookup l = none) : s.entryOf l = .invalid := by rw [State.entryOf, h]

theorem entryOf_found (h : s.lookup l = some w) : s.entryOf l = s.entry (setOf l) w := by rw [State.entryOf, h]

/-- A line that no way holds has the region of its address (R188). -/
theorem regionOfLine_absent (h : s.lookup l = none) : s.regionOfLine l = s.regionAt (lineWord l) := by
  rw [State.regionOfLine, entryOf_absent h]
  rfl

theorem reservationOf_free (h : s.resOf l = none) : s.reservationOf l = none := by
  rw [State.reservationOf, h]
  rfl

theorem reservationOf_held {i : ResId} (h : s.resOf l = some i) : s.reservationOf l = s.res[i] := by
  rw [State.reservationOf, h]
  rfl

/-- The snapshot of a line that no way holds (R188). -/
theorem snapshotOf_absent (h : s.lookup l = none) :
    (s.snapshotOf l).state = .invalid ∧ (s.snapshotOf l).way = 0 ∧ (s.snapshotOf l).slot = 0 ∧
      (s.snapshotOf l).sharers = PortSet.empty := by
  simp [State.snapshotOf, entryOf_absent h, h, Entry.lineState, Entry.slot?,
    sharers_of_not_held (e := .invalid) rfl]

/-- The snapshot of a line found is that of its way's entry (R188). -/
theorem snapshotOf_found {e : Entry} {r : RegionId} (h : s.lookup l = some w) (he : s.entry (setOf l) w = e)
    (hr : e.region? = some r) :
    (s.snapshotOf l).state = e.lineState ∧ (s.snapshotOf l).way = w ∧ (s.snapshotOf l).slot = e.slot?.getD 0 ∧
      (s.snapshotOf l).sharers = e.sharers ∧ (s.snapshotOf l).regionPresent = true ∧ (s.snapshotOf l).region = r := by
  have hentry := (entryOf_found h).trans he
  have hregion : s.regionOfLine l = some r := by rw [State.regionOfLine, hentry, hr]
  simp [State.snapshotOf, h, hentry, hregion]

/-- The reservation fields of a snapshot (R188). -/
theorem snapshotOf_reserved {i : ResId} {x : Reservation} (h : s.resOf l = some i) (hx : s.res[i] = some x) :
    (s.snapshotOf l).reserved = true ∧ (s.snapshotOf l).owner = x.owner ∧ (s.snapshotOf l).word = x.word := by
  have hres := (reservationOf_held h).trans hx
  simp [State.snapshotOf, hres]

end Snapshots

/-- Settles O59, by the way that the lookup finds for the line and by its reservation. -/
theorem lineQueryTakesSnapshot : Obligations.LineQueryTakesSnapshot := by
  unfold Obligations.LineQueryTakesSnapshot
  intro s k v h l
  refine ⟨s.snapshotOf l, exec_lineQuery h, rfl, rfl, fun hno => ?absent, fun w x hw he => ?held,
    fun w tag r i hw he => ?filling, fun hfree => ?free, fun i x hi hx => snapshotOf_reserved hi hx⟩
  case absent =>
    obtain ⟨hstate, hway, hslot, hsharers⟩ := snapshotOf_absent hno
    have hregion : s.regionOfLine l = s.regionAt v := (regionOfLine_absent hno).trans (regionAt_lineWord s v)
    refine ⟨hstate, hway, hslot, fun j => hsharers ▸ PortSet.empty_getElem j, ?_, fun r hr => ?_⟩
    · rw [← hregion]
      exact Option.isSome_iff_ne_none
    · rw [State.snapshotOf, hregion, hr]
      rfl
  case held =>
    obtain he | he := he
    all_goals
      obtain ⟨hstate, hfields⟩ := snapshotOf_found hw he rfl
      exact ⟨by simp [hstate, he, Entry.lineState], by simp [hstate, he, Entry.lineState], hfields⟩
  case filling =>
    obtain ⟨hstate, hway, hslot, hsharers, hregion⟩ := snapshotOf_found hw he rfl
    exact ⟨hstate, hway, hslot, fun j => hsharers ▸ PortSet.empty_getElem j, hregion⟩
  case free =>
    rw [State.snapshotOf, reservationOf_free hfree]
    rfl

/-! ### The event queue (R190, R192, R193) -/

/-- A write to EVENT_POP takes the head record off and answers DONE (R192). -/
theorem exec_eventPop {s : State} {k : Port} {v : Word} (h : s.writes k .eventPop v) :
    exec .eventPop s = .next { s.answering k (.done .nothing) with events := s.events.pop } :=
  (takeWrite_of (effect := fun s k _ => s.popEvent k) h rfl rfl).trans
    (congrArg _ (taken_respond { s with events := s.events.pop } k _))

/-- An empty queue stays as it is (R192). -/
theorem EventQueue.pop_empty {q : EventQueue} (h : q.records = []) : q.pop = q := by rw [EventQueue.pop, h]

/-- The head leaves, and the overflow flag stays set only while a record is left (R192). -/
theorem EventQueue.pop_cons {q : EventQueue} {e : Event} {es : List Event} (h : q.records = e :: es) :
    q.pop = { records := es, overflow := q.overflow && !es.isEmpty } := by
  cases es <;> simp [EventQueue.pop, h]

/-- An event line shows the port's enable and a record waiting, the pin deasserted (R193, R195). -/
theorem eventLine_iff {s : State} {k : Port} :
    s.eventLine k = true ↔ s.porPin = false ∧ s.ports[k].eventEnable = true ∧ s.events.records ≠ [] := by
  simp [-Fin.getElem_fin, State.eventLine, and_assoc]

/-- Settles O60: the two ends of the queue, and the line that follows it. -/
theorem eventQueueStoresAndPops : Obligations.EventQueueStoresAndPops := by
  unfold Obligations.EventQueueStoresAndPops
  refine ⟨fun s k v h => ?pops, fun q e => ⟨fun hroom => ?stored, fun hfull => ?lost⟩, fun s k => eventLine_iff⟩
  case pops =>
    rw [exec_eventPop h]
    refine ⟨fun hempty => ?empty, fun e es hrecords => ?head⟩
    case empty =>
      rw [EventQueue.pop_empty hempty]
      rfl
    case head => rw [EventQueue.pop_cons hrecords]
  case stored => exact if_pos hroom
  case lost => exact if_neg (not_lt.mpr hfull)

end Sys2Proof.Machine

/-! ## The time base and the power-on reset pin

With no command waiting a step takes a running out that is due, and else lets one microsecond elapse (R197). Under the
power-on reset pin neither comes about: every command but POWER_ON_RESET and the levels of the port reset lines is a
happening, and the pin holds every happening off (R195). -/

namespace Sys2Proof.Machine

section UnderPin

variable {s : State}

/-- No transaction is taken while the power-on reset pin is asserted. -/
theorem takeRequest_pin (hp : s.porPin = true) (named : Transaction → Bool)
    (f : State → Port → Transaction → State) : takeRequest s named f = .next s :=
  happen_pin hp

/-- Under the pin a port reset line takes its level, and no port reset comes about. -/
theorem exec_portReset_pin (hp : s.porPin = true) (k : Port) :
    exec (.portReset k) s = .next (s.setResetLine k true) :=
  if_pos hp

theorem exec_portResetDeassert_pin (hp : s.porPin = true) (k : Port) :
    exec (.portResetDeassert k) s = .next (s.setResetLine k false) :=
  if_pos hp

/-- A command that is no level of a reset input changes nothing while the pin is asserted (R195). -/
theorem exec_pin {c : Instr} (hp : s.porPin = true) (hpower : ∀ b, c ≠ .powerOnReset b)
    (hline : ∀ k, c ≠ .portReset k ∧ c ≠ .portResetDeassert k) : exec c s = .next s := by
  cases c with
  | powerOnReset b => exact absurd rfl (hpower b)
  | portReset k => exact absurd rfl (hline k).1
  | portResetDeassert k => exact absurd rfl (hline k).2
  | read | write | lineRead | lineWrite | reserveRead | releaseWrite | release => exact takeRequest_pin hp _ _
  | run | softReset | portCfg | attach | detach | controlWindowWrite | region | enable | disable | forceProbe
  | forceOnline | forceOffline | clean | flush | discard | abort | lineQuery | eventHead | eventPop =>
    exact takeRequest_pin hp _ _
  | acceptance k t => exact (happen_pin hp : execAcceptance k t s = _)
  | ack data => exact (happen_pin hp : execAck data s = _)
  | readyTimeout => exact (happen_pin hp : execReadyTimeout s = _)
  | probeTimerRunOut r => exact (happen_pin hp : execProbeTimerRunOut r s = _)
  | expiry e => exact (happen_pin hp : execExpiry e s = _)
  | acknowledgement k w => exact (happen_pin hp : execAcknowledgement k w s = _)
  | noticeTimeout k => exact (happen_pin hp : execNoticeTimeout k s = _)
  | foreignWrite a => exact (happen_pin hp : execForeignWrite a s = _)
  | err | evaluation | cleanSweepStep | flushSweepStep | discardSweepStep => exact happen_pin hp

end UnderPin

/-- Settles O11: of the inputs only the reset lines have levels that stay. -/
theorem nothingHappensUnderPowerOnPin : Obligations.NothingHappensUnderPowerOnPin := by
  unfold Obligations.NothingHappensUnderPowerOnPin
  refine fun c s hp hpower => ⟨?asserted, ?deasserted, exec_pin hp hpower⟩
  case asserted =>
    rintro k rfl
    exact exec_portReset_pin hp k
  case deasserted =>
    rintro k rfl
    exact exec_portResetDeassert_pin hp k

section EmptyQueue

variable {s : State} {c : Instr}

/-- A notice timer has time left to run while its port's queue holds a head (R104). -/
theorem NoticeQueue.left_eq_some {q : NoticeQueue} {n : Nat} :
    q.left = some n ↔ q.queue ≠ [] ∧ q.timer = some n := by
  simp [NoticeQueue.left]

theorem resLeft_eq_some {e : ResId} {n : Nat} :
    s.resLeft e = some n ↔ ∃ x, s.res[e] = some x ∧ x.remaining = n :=
  Option.map_eq_some_iff

/-- A running out that is due is that of a timer with none left (R197). -/
theorem dueCommand_cases (h : s.dueCommand = some c) :
    (c = .readyTimeout ∧ s.dev.phase.left = some 0) ∨
      (∃ k : Port, c = .noticeTimeout k ∧ s.notices[k].queue ≠ [] ∧ s.notices[k].timer = some 0) ∨
      (∃ (e : ResId) (x : Reservation), c = .expiry e ∧ s.res[e] = some x ∧ x.remaining = 0) ∨
      ∃ r : RegionId, c = .probeTimerRunOut r ∧ s.regions[r].probeTimer = some 0 := by
  unfold State.dueCommand at h
  split at h
  · next hready => exact .inl ⟨(Option.some.inj h).symm, hready⟩
  · simp only [Option.or_eq_some_iff, Option.map_eq_some_iff] at h
    obtain ⟨k, hk, rfl⟩ | ⟨-, ⟨e, he, rfl⟩ | ⟨-, r, hr, rfl⟩⟩ := h
    · have hleft : s.notices[k].left = some 0 := by simpa using List.find?_some hk
      exact .inr (.inl ⟨k, rfl, NoticeQueue.left_eq_some.mp hleft⟩)
    · have hleft : s.resLeft e = some 0 := by simpa using List.find?_some he
      obtain ⟨x, hx, hzero⟩ := resLeft_eq_some.mp hleft
      exact .inr (.inr (.inl ⟨e, x, rfl, hx, hzero⟩))
    · have hleft : s.regions[r].probeTimer = some 0 := by simpa using List.find?_some hr
      exact .inr (.inr (.inr ⟨r, rfl, hleft⟩))

/-- A running out that is due does not come about while the pin is asserted (R195). -/
theorem exec_due_pin (hp : s.porPin = true) (h : s.dueCommand = some c) : exec c s = .next s := by
  obtain ⟨rfl, -⟩ | ⟨k, rfl, -⟩ | ⟨e, x, rfl, -⟩ | ⟨r, rfl, -⟩ := dueCommand_cases h <;>
    exact exec_pin hp (by simp) (by simp)

/-- With no command waiting and none due a step is a microsecond of the time base. -/
theorem step_tick (h : s.pending = []) (hdue : s.dueCommand = none) : step s = .next s.tick := by
  rw [step, h]
  simp only [hdue]

/-- With no command waiting a running out that is due is taken. -/
theorem step_due (h : s.pending = []) (hdue : s.dueCommand = some c) : step s = exec c s := by
  rw [step, h]
  simp only [hdue]

theorem tick_pin (hp : s.porPin = true) : s.tick = s := if_pos hp

/-- A microsecond of the time base elapses while the pin is deasserted. -/
theorem tick_running (hp : s.porPin = false) : s.tick = s.elapse 1 := by simp [State.tick, hp]

/-- With no command waiting nothing comes about, and no time elapses, under the pin (R195). -/
theorem step_pin (h : s.pending = []) (hp : s.porPin = true) : step s = .next s := by
  cases hdue : s.dueCommand with
  | none => rw [step_tick h hdue, tick_pin hp]
  | some c => rw [step_due h hdue, exec_due_pin hp hdue]

end EmptyQueue

/-- Settles O2, by whether a running out is due. -/
theorem stepOnEmptyQueueElapsesOneMicrosecond : Obligations.StepOnEmptyQueueElapsesOneMicrosecond := by
  unfold Obligations.StepOnEmptyQueueElapsesOneMicrosecond
  refine fun s h => ⟨step_pin h, fun hp hsooner => ?elapses, fun _ hsooner => ?runsOut⟩
  case elapses =>
    refine ⟨s.elapse 1, ?_, rfl, fun i => ?res, fun k => ?notice, fun r => elapse_region s 1 r, rfl, rfl, ?phase⟩
    · rw [step_tick h (dueCommand_eq_none.mpr hsooner), tick_running hp]
    case res =>
      rw [State.elapse_res, mapAll_getElem]
      rfl
    case notice =>
      rw [State.elapse_notices, mapAll_getElem]
      rfl
    case phase =>
      rw [State.elapse_dev]
      refine ⟨fun hidle => ?_, fun now n rest gathered kept hbusy => ?_, fun orphan n hclearing => ?_⟩
      · rw [hidle, DevPhase.age]
      · rw [hbusy, DevPhase.age]
      · rw [hclearing, DevPhase.age]
  case runsOut =>
    obtain ⟨c, hc⟩ := Option.ne_none_iff_exists'.mp (mt dueCommand_eq_none.mp hsooner)
    exact ⟨c, step_due h hc, dueCommand_cases hc⟩

end Sys2Proof.Machine

/-! ## The queue of commands

Commands are placed in the queue from outside, and a step takes the one in front; no command changes the queue
(notes/assumptions/1.md). That each operation leaves it as it was is said here once, in the order of the model, and
tagged for `simp` where a later operation is made of it. With it every command answers a next state that has the queue
of the state before: a happening that does not come about leaves the whole state, and the others leave the queue. -/

namespace Sys2Proof.Machine

/-- Operations that leave the queue leave it one after the other. -/
theorem foldl_pending {α : Type} {f : State → α → State} (h : ∀ (u : State) (a : α), (f u a).pending = u.pending)
    (s : State) (as : List α) : (as.foldl f s).pending = s.pending := by
  induction as generalizing s with
  | nil => rfl
  | cons a as ih => exact (ih (f s a)).trans (h s a)

/-! ### Hit service and the ends of fills and port operations -/

section Operations

variable (s : State)

@[simp] theorem State.finishWrite_pending (q : Request) : (s.finishWrite q).pending = s.pending := by
  unfold State.finishWrite
  split <;> rfl

@[simp] theorem State.writeLine_pending (q : Request) (w : WayIdx) (h : Held) :
    (s.writeLine q w h).pending = s.pending := rfl

@[simp] theorem State.serveWrite_pending (q : Request) (w : WayIdx) (h : Held) :
    (s.serveWrite q w h).pending = s.pending := by
  unfold State.serveWrite
  split
  · rfl
  · split
    · rfl
    · simp

@[simp] theorem State.serveReserve_pending (q : Request) (w : WayIdx) (h : Held) :
    (s.serveReserve q w h).pending = s.pending := by
  unfold State.serveReserve
  split
  · rfl
  · split
    · rfl
    · split
      · rfl
      · split <;> rfl

@[simp] theorem State.serveReleaseWrite_pending (q : Request) (w : WayIdx) (h : Held) :
    (s.serveReleaseWrite q w h).pending = s.pending := by
  unfold State.serveReleaseWrite
  split
  · split
    · rfl
    · simp
  · rfl

@[simp] theorem State.serveRelease_pending (q : Request) (w : WayIdx) : (s.serveRelease q w).pending = s.pending := by
  unfold State.serveRelease
  split <;> rfl

@[simp] theorem State.serveHeld_pending (q : Request) (w : WayIdx) (h : Held) :
    (s.serveHeld q w h).pending = s.pending := by
  unfold State.serveHeld
  split
  · rfl
  · exact s.serveWrite_pending q w h
  · rfl
  · exact s.serveWrite_pending q w h
  · exact s.serveReserve_pending q w h
  · exact s.serveReleaseWrite_pending q w h
  · exact s.serveRelease_pending q w

@[simp] theorem State.serve_pending (q : Request) (w : WayIdx) : (s.serve q w).pending = s.pending := by
  unfold State.serve
  split
  · rfl
  · exact s.serveHeld_pending q w _

@[simp] theorem State.serveAll_pending (w : WayIdx) (qs : List Request) : (s.serveAll w qs).pending = s.pending :=
  foldl_pending (fun u q => u.serve_pending q w) s qs

@[simp] theorem State.answerAll_pending (qs : List Request) (answer : Request → Response) :
    (s.answerAll qs answer).pending = s.pending :=
  foldl_pending (fun u (q : Request) => u.respond_pending q.port (answer q)) s qs

@[simp] theorem State.completeFill_pending (i : SlotId) : (s.completeFill i).pending = s.pending := by
  unfold State.completeFill
  split
  · rfl
  · split
    · simp [State.taintedFill]
    · simp [State.installFill]

@[simp] theorem State.failFill_pending (i : SlotId) (c : FaultCause) : (s.failFill i c).pending = s.pending := by
  unfold State.failFill
  split
  · rfl
  · simp

@[simp] theorem State.answerOwner_pending (op : Operation) (r : Response) :
    (s.answerOwner op r).pending = s.pending := by
  unfold State.answerOwner
  split <;> rfl

@[simp] theorem State.recordLost_pending (op : Operation) (how : LostHow) :
    (s.recordLost op how).pending = s.pending := by
  rw [recordLost_eq]

@[simp] theorem State.failPortOp_pending (op : Operation) (c : FaultCause) (how : LostHow) :
    (s.failPortOp op c how).pending = s.pending := by
  simp [State.failPortOp]

/-! ### A region going OFFLINE and returning -/

@[simp] theorem State.handOn_pending (op : Operation) : (s.handOn op).pending = s.pending := by
  unfold State.handOn
  split <;> simp

@[simp] theorem State.handOnAll_pending (queued parked : List Operation) :
    (s.handOnAll queued parked).pending = s.pending :=
  (foldl_pending (fun u op => u.failPortOp_pending op .offline .offline) _ parked).trans
    (foldl_pending State.handOn_pending s queued)

@[simp] theorem State.stripRegion_pending (r : RegionId) : (s.stripRegion r).pending = s.pending := rfl

@[simp] theorem State.markOffline_pending (r : RegionId) : (s.markOffline r).pending = s.pending := rfl

@[simp] theorem State.startProbeTimer_pending (r : RegionId) : (s.startProbeTimer r).pending = s.pending := rfl

/-- A departure leaves the queue where the end of the operation that caused it does. -/
theorem State.goOffline_pending (r : RegionId) {first : State → State} (e : Event)
    (h : ∀ u : State, (first u).pending = u.pending) : (s.goOffline r first e).pending = s.pending := by
  simp [State.goOffline, h]

@[simp] theorem State.requeueDrains_pending (r : RegionId) : (s.requeueDrains r).pending = s.pending :=
  foldl_pending (fun u (e : DrainEntry) => u.enqueue_pending e.op) _ (s.heldDrains r)

@[simp] theorem State.markOnline_pending (r : RegionId) : (s.markOnline r).pending = s.pending := rfl

@[simp] theorem State.comeOnline_pending (r : RegionId) (e : Event) : (s.comeOnline r e).pending = s.pending := by
  simp [State.comeOnline]

/-! ### Detach and port reset -/

@[simp] theorem State.setMode_pending (k : Port) (m : Mode) : (s.setMode k m).pending = s.pending := rfl

@[simp] theorem State.detach_pending (k : Port) : (s.detach k).pending = s.pending := by
  simp [State.detach]

@[simp] theorem State.abandonFlight_pending (k : Port) : (s.abandonFlight k).pending = s.pending := by
  rw [abandonFlight_eq]

@[simp] theorem State.portReset_pending (k : Port) : (s.portReset k).pending = s.pending := by
  simp [State.portReset]

/-! ### Accesses to the control window -/

@[simp] theorem State.ok_pending (k : Port) : (s.ok k).pending = s.pending := rfl

variable (k : Port) (v : Word)

theorem State.writeHubState_pending : (s.writeHubState k v).pending = s.pending := by
  unfold State.writeHubState
  split
  · rfl
  · split <;> rfl

@[simp] theorem State.writeMode_pending (j : Port) (coherent : Bool) :
    (s.writeMode j coherent).pending = s.pending := by
  unfold State.writeMode
  split
  · rfl
  · rfl
  · rfl
  · simp
  · rfl

theorem State.writePortCfg_pending (j : Port) : (s.writePortCfg j k v).pending = s.pending := by
  unfold State.writePortCfg
  split
  · rfl
  · simp [State.writePermission]

theorem State.attachPort_pending : (s.attachPort k v).pending = s.pending := by
  unfold State.attachPort
  split <;> rfl

theorem State.detachPort_pending : (s.detachPort k v).pending = s.pending := by
  unfold State.detachPort
  split
  · rfl
  · simp
  · rfl

theorem State.writePortCmd_pending : (s.writePortCmd k v).pending = s.pending := by
  unfold State.writePortCmd
  split
  · exact s.attachPort_pending k v
  · split
    · exact s.detachPort_pending k v
    · rfl

theorem State.writeParameter_pending (g : Reg) : (s.writeParameter k g v).pending = s.pending := by
  unfold State.writeParameter State.writeResTime State.writeNoticeTime State.writeUrgency
  split
  · split <;> rfl
  · split <;> rfl
  · split <;> rfl
  · rfl

theorem State.writeRegion_pending (n : RegionId) (w : Fin 4) : (s.writeRegion n w k v).pending = s.pending := by
  unfold State.writeRegion
  split
  · rfl
  · split <;> rfl

theorem State.enableRegion_pending : (s.enableRegion k v).pending = s.pending := by
  unfold State.enableRegion
  split
  · rfl
  · split <;> rfl

theorem State.disableRegion_pending : (s.disableRegion k v).pending = s.pending := by
  unfold State.disableRegion
  split
  · rfl
  · split <;> rfl

theorem State.forceProbe_pending : (s.forceProbe k v).pending = s.pending := by
  unfold State.forceProbe
  split
  · rfl
  · rfl
  · split <;> rfl

theorem State.forceOnline_pending : (s.forceOnline k v).pending = s.pending := by
  unfold State.forceOnline
  split
  · rfl
  · rfl
  · simp [State.dropProbe]

theorem State.forceOffline_pending : (s.forceOffline k v).pending = s.pending := by
  unfold State.forceOffline
  split
  · rfl
  · rfl
  · rw [State.ok_pending, State.goOffline_pending s _ (first := id) _ fun _ => rfl]

theorem State.writeRegionCmd_pending : (s.writeRegionCmd k v).pending = s.pending := by
  unfold State.writeRegionCmd
  split
  · exact s.enableRegion_pending k v
  · split
    · exact s.disableRegion_pending k v
    · split
      · exact s.forceProbe_pending k v
      · split
        · exact s.forceOnline_pending k v
        · split
          · exact s.forceOffline_pending k v
          · rfl

theorem State.startSweep_pending (c : SweepCommand) : (s.startSweep c k v).pending = s.pending := by
  unfold State.startSweep
  split
  · rfl
  · split <;> rfl

theorem State.abortSweep_pending : (s.abortSweep k).pending = s.pending := by
  unfold State.abortSweep
  split <;> rfl

theorem State.writeSweepCmd_pending : (s.writeSweepCmd k v).pending = s.pending := by
  unfold State.writeSweepCmd
  split
  · exact s.startSweep_pending k v .clean
  · split
    · exact s.startSweep_pending k v .flush
    · split
      · exact s.startSweep_pending k v .discard
      · split
        · exact s.abortSweep_pending k
        · rfl

theorem State.readWindow_pending (g : Reg) : (s.readWindow k g).pending = s.pending := by
  cases g <;> rfl

theorem State.writeWindow_pending (g : Reg) : (s.writeWindow k g v).pending = s.pending := by
  cases g with
  | hubState => exact s.writeHubState_pending k v
  | portCfg j => exact s.writePortCfg_pending k v j
  | portCmd => exact s.writePortCmd_pending k v
  | resTime => exact s.writeParameter_pending k v .resTime
  | noticeTime => exact s.writeParameter_pending k v .noticeTime
  | urgency => exact s.writeParameter_pending k v .urgency
  | regionCmd => exact s.writeRegionCmd_pending k v
  | sweepCmd => exact s.writeSweepCmd_pending k v
  | regionWord n w => exact s.writeRegion_pending k v n w
  | sweepStatus0 | sweepStatus1 | lineQuery0 | lineQuery1 | eventHead0 | eventHead1 | eventPop | eventStatus => rfl

/-- The checks of R179 leave the queue where the access does. -/
theorem State.checkedAccess_pending (t : Transaction) {effect : State → State}
    (h : (effect s).pending = s.pending) : (s.checkedAccess k t effect).pending = s.pending := by
  unfold State.checkedAccess
  split
  · rfl
  · exact h

theorem State.controlAccess_pending (t : Transaction) : (s.controlAccess k t).pending = s.pending := by
  refine s.checkedAccess_pending k t ?_
  split
  · rfl
  · split
    · exact s.writeWindow_pending k t.wdata _
    · exact s.readWindow_pending k _

end Operations

/-! ### The directory -/

section Directory

variable (s : State)

theorem State.evict_pending (si : SetIdx) (w : WayIdx) : (s.evict si w).pending = s.pending := by
  unfold State.evict
  split <;> rfl

theorem State.allocate_pending (si : SetIdx) (w : WayIdx) (e : Entry) : (s.allocate si w e).pending = s.pending := by
  simp [State.allocate, State.evict_pending]

theorem State.installWrite_pending (q : Request) (w : WayIdx) : (s.installWrite q w).pending = s.pending := by
  rw [State.installWrite, State.respond_pending, State.allocate_pending]

theorem State.startFill_pending (q : Request) (w : WayIdx) (i : SlotId) : (s.startFill q w i).pending = s.pending := by
  rw [State.startFill, State.place_pending, State.enqueue_pending, State.setSlot_pending, State.allocate_pending]

theorem State.chooseVictim_pending (q : Request) {alloc : WayIdx → State} (h : ∀ w, (alloc w).pending = s.pending) :
    (s.chooseVictim q alloc).pending = s.pending := by
  obtain ⟨c, hc⟩ | ⟨w, -, hw⟩ := chooseVictim_cases s q alloc
  · rw [hc, State.respond_pending]
  · rw [hw, h]

theorem State.missAllocate_pending (q : Request) : (s.missAllocate q).pending = s.pending := by
  unfold State.missAllocate
  split
  · exact s.chooseVictim_pending q (s.installWrite_pending q)
  · split
    · rfl
    · exact s.chooseVictim_pending q fun w => s.startFill_pending q w _

theorem State.missPath_pending (q : Request) : (s.missPath q).pending = s.pending := by
  unfold State.missPath
  split
  · rfl
  · split
    · rfl
    · split
      · rfl
      · split
        · rfl
        · exact s.missAllocate_pending q

theorem State.miss_pending (q : Request) : (s.miss q).pending = s.pending := by
  unfold State.miss
  split
  · rfl
  · rfl
  all_goals exact s.missPath_pending q

theorem State.joinFill_pending (q : Request) (i : SlotId) : (s.joinFill q i).pending = s.pending := by
  unfold State.joinFill
  split <;> rfl

theorem State.directory_pending (q : Request) : (s.directory q).pending = s.pending := by
  unfold State.directory
  split
  · exact s.miss_pending q
  · split
    · exact s.joinFill_pending q _
    · rfl
    · exact s.serve_pending q _
    · exact s.serve_pending q _

theorem State.intake_pending (k : Port) (t : Transaction) : (s.intake k t).pending = s.pending := by
  unfold State.intake
  split
  · rfl
  · split
    · exact s.controlAccess_pending k t
    · split
      · rfl
      · split
        · rfl
        · split
          · rfl
          · exact s.directory_pending _

/-! ### Sweeps -/

@[simp] theorem State.advance_pending : s.advance.pending = s.pending := by
  unfold State.advance
  split <;> rfl

@[simp] theorem State.countSkip_pending : s.countSkip.pending = s.pending := rfl

@[simp] theorem State.countBack_pending : s.countBack.pending = s.pending := rfl

@[simp] theorem State.countInvalid_pending : s.countInvalid.pending = s.pending := rfl

@[simp] theorem State.skipWay_pending : s.skipWay.pending = s.pending := by
  simp [State.skipWay]

@[simp] theorem State.sweepOut_pending (h : Held) (kind : NoticeKind) : (s.sweepOut h kind).pending = s.pending := by
  simp [State.sweepOut]

theorem State.cleanDirty_pending (h : Held) : (s.cleanDirty h).pending = s.pending := by
  unfold State.cleanDirty
  split
  · exact s.skipWay_pending
  · split
    · simp [State.cleanCopy]
    · rfl

theorem State.cleanStep_pending : s.cleanStep.pending = s.pending := by
  unfold State.cleanStep
  split
  · exact s.advance_pending
  · exact s.advance_pending
  · split <;> simp
  · split
    · exact s.cleanDirty_pending _
    · exact s.advance_pending

theorem State.flushClean_pending (h : Held) : (s.flushClean h).pending = s.pending := by
  unfold State.flushClean
  split
  · rfl
  · exact s.sweepOut_pending h .revoke

theorem State.flushDirty_pending (h : Held) : (s.flushDirty h).pending = s.pending := by
  unfold State.flushDirty
  split
  · exact s.skipWay_pending
  · split
    · rfl
    · split
      · rfl
      · simp

theorem State.flushStep_pending : s.flushStep.pending = s.pending := by
  unfold State.flushStep
  split
  · exact s.advance_pending
  · split <;> simp
  · split
    · split
      · exact s.skipWay_pending
      · exact s.flushClean_pending _
    · exact s.advance_pending
  · split
    · split
      · exact s.skipWay_pending
      · exact s.flushDirty_pending _
    · exact s.advance_pending

theorem State.discardHeld_pending (h : Held) : (s.discardHeld h).pending = s.pending := by
  unfold State.discardHeld
  split
  · exact s.skipWay_pending
  · split
    · rfl
    · exact s.sweepOut_pending h .invalidate

theorem State.discardStep_pending : s.discardStep.pending = s.pending := by
  unfold State.discardStep
  split
  · exact s.advance_pending
  · split <;> simp
  · split
    · exact s.discardHeld_pending _
    · exact s.advance_pending
  · split
    · exact s.discardHeld_pending _
    · exact s.advance_pending

/-! ### Foreign writes and notices -/

@[simp] theorem State.recordConflict_pending (l : LineAddr) (dirty : Option RegionId) :
    (s.recordConflict l dirty).pending = s.pending := by
  unfold State.recordConflict
  split <;> rfl

@[simp] theorem State.popForeign_pending : s.popForeign.pending = s.pending := rfl

theorem State.evaluateHeld_pending (l : LineAddr) (w : WayIdx) (h : Held) :
    (s.evaluateHeld l w h).pending = s.pending := by
  unfold State.evaluateHeld
  split
  · rfl
  · simp [State.foreignInvalidate]

theorem State.evaluateLine_pending (l : LineAddr) : (s.evaluateLine l).pending = s.pending := by
  unfold State.evaluateLine
  split
  · exact s.recordConflict_pending l none
  · split
    · exact s.evaluateHeld_pending l _ _
    · exact s.evaluateHeld_pending l _ _
    · exact (s.taint _).recordConflict_pending l none
    · exact s.recordConflict_pending l none

theorem State.evaluate_pending : s.evaluate.pending = s.pending := by
  unfold State.evaluate
  split
  · rfl
  · exact s.evaluateLine_pending _

theorem State.noticeTimedOut_pending (k : Port) : (s.noticeTimedOut k).pending = s.pending := by
  unfold State.noticeTimedOut
  split
  · rfl
  · simp [State.recordDetached]

end Directory

/-! ### The Device Port -/

section DevicePort

variable (s : State) (op : Operation)

@[simp] theorem State.receive_pending (w : Word) : (s.receive op w).pending = s.pending := by
  unfold State.receive
  split <;> rfl

@[simp] theorem State.handSuccess_pending (kept : List Word) : (s.handSuccess op kept).pending = s.pending := by
  unfold State.handSuccess
  split <;> simp

theorem State.ackWord_pending (rest : List Transfer) (w : Word) (kept : List Word) :
    (s.ackWord op rest w kept).pending = s.pending := by
  unfold State.ackWord
  split
  · simp [State.endSuccess]
  · exact s.receive_pending op w

theorem State.ackHead_pending (now : Transfer) (rest : List Transfer) (gathered : Word) (kept : List Word)
    (data : Word) : (s.ackHead op now rest gathered kept data).pending = s.pending := by
  unfold State.ackHead
  split
  · exact (s.setCount _ 0).ackWord_pending op rest _ kept
  · split
    · exact (s.setCount _ 0).ackWord_pending op [] _ kept
    · rfl

theorem State.acked_pending (data : Word) : (s.acked data).pending = s.pending := by
  unfold State.acked
  split
  · rfl
  · rfl
  · exact s.ackHead_pending _ _ _ _ _ data
  · rfl

@[simp] theorem State.loseDrain_pending (p : DrainPlace) : (s.loseDrain p).pending = s.pending := by
  unfold State.loseDrain
  split <;> rfl

@[simp] theorem State.handError_pending : (s.handError op).pending = s.pending := by
  unfold State.handError
  split <;> simp

theorem State.errored_pending : s.errored.pending = s.pending := by
  unfold State.errored
  split
  · rfl
  · rfl
  · exact State.handError_pending _ _
  · rfl

@[simp] theorem State.drainTimedOut_pending (p : DrainPlace) (crossed : Bool) :
    (s.drainTimedOut op p crossed).pending = s.pending := by
  unfold State.drainTimedOut
  split
  · rfl
  · split <;> rfl

@[simp] theorem State.handTimeout_pending (crossed : Bool) : (s.handTimeout op crossed).pending = s.pending := by
  unfold State.handTimeout
  split <;> simp

theorem State.timeoutHead_pending (now : Transfer) : (s.timeoutHead op now).pending = s.pending := by
  unfold State.timeoutHead
  split
  · exact State.goOffline_pending _ _ _ fun u => u.handTimeout_pending op true
  · exact State.handTimeout_pending _ op false

theorem State.timedOut_pending : s.timedOut.pending = s.pending := by
  unfold State.timedOut
  split
  · rfl
  · rfl
  · exact s.timeoutHead_pending _ _
  · rfl

end DevicePort

/-! ### Every command -/

/-- An outcome is a next state that has the queue of `s`. -/
def State.AnswersNext (s : State) (o : Host.Outcome State Fault Refusal) : Prop :=
  ∃ t : State, o = .next t ∧ t.pending = s.pending

section Commands

variable (s : State)

/-- A happening answers the state as it was or its effect, a next state either way. -/
theorem happen_answersNext (p : Bool) {f : State → State} (h : (f s.quiet).pending = s.pending) :
    s.AnswersNext (happen s p f) := by
  obtain hn | ⟨-, -, hn⟩ := happen_cases s p f
  · exact ⟨s, hn, rfl⟩
  · exact ⟨f s.quiet, hn, h⟩

/-- So does a command that takes the granted transaction. -/
theorem takeRequest_answersNext (named : Transaction → Bool) {f : State → Port → Transaction → State}
    (h : ∀ (u : State) (k : Port) (t : Transaction), (f u k t).pending = u.pending) :
    s.AnswersNext (takeRequest s named f) := by
  obtain hn | ⟨k, t, -, -, hn⟩ := takeRequest_cases s named f
  · exact ⟨s, hn, rfl⟩
  · exact ⟨f (s.taken k) k t, hn, h (s.taken k) k t⟩

theorem takeWrite_answersNext (named : Reg → Bool) (value : Word → Bool) {effect : State → Port → Word → State}
    (h : ∀ (u : State) (k : Port) (v : Word), (effect u k v).pending = u.pending) :
    s.AnswersNext (takeWrite s named value effect) :=
  takeRequest_answersNext s _ fun u k t => u.checkedAccess_pending k t (h u k t.wdata)

theorem execPortCfg_answersNext : s.AnswersNext (execPortCfg s) := by
  refine takeRequest_answersNext s _ fun u k t => u.checkedAccess_pending k t ?_
  split
  · rfl
  · exact u.writePortCfg_pending k _ _

theorem execRegion_answersNext : s.AnswersNext (execRegion s) := by
  refine takeRequest_answersNext s _ fun u k t => u.checkedAccess_pending k t ?_
  split
  · rfl
  · exact u.writeRegion_pending k _ _ _

theorem execControlWindowWrite_answersNext : s.AnswersNext (execControlWindowWrite s) := by
  refine takeRequest_answersNext s _ fun u k t => u.checkedAccess_pending k t ?_
  split
  · rfl
  · exact u.writeParameter_pending k _ _

theorem execEventHead_answersNext : s.AnswersNext (execEventHead s) := by
  refine takeRequest_answersNext s _ fun u k t => u.checkedAccess_pending k t ?_
  split <;> exact u.readWindow_pending k _

theorem execPortReset_answersNext (k : Port) : s.AnswersNext (execPortReset k s) := by
  unfold execPortReset
  split
  · exact ⟨_, rfl, rfl⟩
  · exact ⟨_, rfl, s.quiet.portReset_pending k⟩

theorem execPortResetDeassert_answersNext (k : Port) : s.AnswersNext (execPortResetDeassert k s) := by
  unfold execPortResetDeassert
  split <;> exact ⟨_, rfl, rfl⟩

/-- The pin's levels leave the queue, which lies outside the hub. -/
theorem execPowerOnReset_answersNext (asserted : Bool) : s.AnswersNext (execPowerOnReset asserted s) := by
  unfold execPowerOnReset
  split
  · exact ⟨_, rfl, rfl⟩
  · split
    · rw [resetAsserted_atPowerOn]
      exact ⟨_, rfl, rfl⟩
    · exact ⟨_, rfl, rfl⟩

/-- Every command answers a next state and leaves the queue. -/
theorem exec_answersNext (c : Instr) : s.AnswersNext (exec c s) := by
  cases c with
  | acceptance k t => exact (happen_answersNext s _ rfl : s.AnswersNext (execAcceptance k t s))
  | read | write | lineRead | lineWrite | reserveRead | releaseWrite | release =>
    exact takeRequest_answersNext s _ State.intake_pending
  | portReset k => exact execPortReset_answersNext s k
  | portResetDeassert k => exact execPortResetDeassert_answersNext s k
  | powerOnReset asserted => exact execPowerOnReset_answersNext s asserted
  | ack data => exact (happen_answersNext s _ (s.quiet.acked_pending data) : s.AnswersNext (execAck data s))
  | err withAck => exact (happen_answersNext s _ s.quiet.errored_pending : s.AnswersNext (execErr withAck s))
  | readyTimeout => exact (happen_answersNext s _ (State.timedOut_pending _) : s.AnswersNext (execReadyTimeout s))
  | probeTimerRunOut r => exact (happen_answersNext s _ rfl : s.AnswersNext (execProbeTimerRunOut r s))
  | expiry e => exact (happen_answersNext s _ rfl : s.AnswersNext (execExpiry e s))
  | acknowledgement k w => exact (happen_answersNext s _ rfl : s.AnswersNext (execAcknowledgement k w s))
  | noticeTimeout k =>
    exact (happen_answersNext s _ (State.noticeTimedOut_pending _ k) : s.AnswersNext (execNoticeTimeout k s))
  | foreignWrite a => exact (happen_answersNext s _ rfl : s.AnswersNext (execForeignWrite a s))
  | evaluation => exact happen_answersNext s _ s.quiet.evaluate_pending
  | cleanSweepStep => exact happen_answersNext s _ s.quiet.cleanStep_pending
  | flushSweepStep => exact happen_answersNext s _ s.quiet.flushStep_pending
  | discardSweepStep => exact happen_answersNext s _ s.quiet.discardStep_pending
  | run => exact (takeWrite_answersNext s _ _ fun _ _ _ => rfl : s.AnswersNext (execRun s))
  | softReset => exact (takeWrite_answersNext s _ _ fun _ _ _ => rfl : s.AnswersNext (execSoftReset s))
  | portCfg => exact execPortCfg_answersNext s
  | attach => exact takeWrite_answersNext s _ _ State.attachPort_pending
  | detach => exact takeWrite_answersNext s _ _ State.detachPort_pending
  | controlWindowWrite => exact execControlWindowWrite_answersNext s
  | region => exact execRegion_answersNext s
  | enable => exact takeWrite_answersNext s _ _ State.enableRegion_pending
  | disable => exact takeWrite_answersNext s _ _ State.disableRegion_pending
  | forceProbe => exact takeWrite_answersNext s _ _ State.forceProbe_pending
  | forceOnline => exact takeWrite_answersNext s _ _ State.forceOnline_pending
  | forceOffline => exact takeWrite_answersNext s _ _ State.forceOffline_pending
  | clean => exact takeWrite_answersNext s _ _ fun u k v => u.startSweep_pending k v .clean
  | flush => exact takeWrite_answersNext s _ _ fun u k v => u.startSweep_pending k v .flush
  | discard => exact takeWrite_answersNext s _ _ fun u k v => u.startSweep_pending k v .discard
  | abort => exact takeWrite_answersNext s _ _ fun u k _ => u.abortSweep_pending k
  | lineQuery => exact takeWrite_answersNext s _ _ fun _ _ _ => rfl
  | eventHead => exact execEventHead_answersNext s
  | eventPop => exact (takeWrite_answersNext s _ _ fun _ _ _ => rfl : s.AnswersNext (execEventPop s))

end Commands

/-- Settles O10: no operation that a command is made of touches the queue. -/
theorem everyCommandAnswersNext : Obligations.EveryCommandAnswersNext := by
  unfold Obligations.EveryCommandAnswersNext
  exact fun c s => exec_answersNext s c

/-- With commands waiting a step is the one in front, run on the state with the queue's rest. -/
theorem step_front {s : State} {c : Instr} {cs : List Instr} (h : s.pending = c :: cs) :
    step s = exec c (s.withPending cs) := by
  rw [step, h]

/-- Settles O1, as a case of a step with a command waiting. -/
theorem stepTakesFrontCommand : Obligations.StepTakesFrontCommand := by
  unfold Obligations.StepTakesFrontCommand
  exact fun c cs s => step_front (s := { s with pending := c :: cs }) rfl

end Sys2Proof.Machine
